-- ==== Sys2Proof/Word.lean ====
section
/-! DEFINITION. The words of the block: the registers' types, the line modes, and the events of the history.
Widths are those of spec/10_state.md rule R20 and spec/00_scope.md rule R7. -/

namespace Sys2Proof

/-- The 4-bit sequencer register `fsm` (R21). -/
abbrev FsmWord := BitVec 4

/-- The 40-bit frame shift register `sr` (R22). -/
abbrev FrameWord := BitVec 40

/-- The 6-bit bit counter `cnt` (R24). -/
abbrev CountWord := BitVec 6

/-- A 16-bit result word, `rh` or `temp` (R26). -/
abbrev ResultWord := BitVec 16

/-- The 3-bit outcome code `cause` (R27). -/
abbrev CauseWord := BitVec 3

/-- The LineState held by the 2-bit register `mode` (R25); its codes are `LineState.code` (R73). -/
inductive LineState where
  | idle
  | drivingLow
  | drivingHigh
  | listening
  deriving DecidableEq, Repr

/-- The commands the history records: INIT and READ, never NOP (R62). -/
inductive RecordedCommand where
  | init
  | read
  deriving DecidableEq, Repr

/-- The events of the history `H` (R62). -/
inductive Event where
  /-- `Cmd(c)`: a host command was accepted. -/
  | cmd (c : RecordedCommand)
  /-- `Mode(m)`: `SetMode` set the line mode. -/
  | mode (m : LineState)
  /-- `Delay(n)`: a delay of nominal duration `n` µs was completed. -/
  | delay (n : Nat)
  /-- `Sample(v)`: the line environment answered `v`. -/
  | sample (v : Bool)
  /-- `Elapsed(t)`: the clock answered `t` to a timeout query. -/
  | elapsed (t : Bool)
  /-- `Done(r, t, c)`: FINALIZE published the results. -/
  | done (rh temp : ResultWord) (cause : CauseWord)
  deriving DecidableEq, Repr

end Sys2Proof
end

