-- ==== Sys2Proof/Syntax.lean ====
section
/-! DEFINITION. The operations of spec/opcode_table.json, one constructor a row: 3 host commands, 13 sequencer states and
7 Line and Clock primitives (spec/00_scope.md rule R2). An operand is the event payload the table names; the code has no
bits for it. -/

namespace Sys2Proof

/-- The fixed-width formats (R70). -/
inductive Format where
  | cmd
  | ustate
  | linestate
  | prim
  | cause
  | frame
  deriving DecidableEq, Repr

/-- One row of the opcode table each. -/
inductive Instr where
  /-- NOP (R202). -/
  | nop
  /-- INIT (R203). -/
  | init
  /-- READ (R204). -/
  | read
  /-- IDLE (R121). -/
  | idle
  /-- WAKE_LOW (R122). -/
  | wakeLow
  /-- RELEASE_HIGH (R123). -/
  | releaseHigh
  /-- AWAIT_ACK0 (R124). -/
  | awaitAck0
  /-- AWAIT_ACK1 (R125). -/
  | awaitAck1
  /-- AWAIT_ACK_END (R126). -/
  | awaitAckEnd
  /-- READY (R127). -/
  | ready
  /-- BIT_WAIT_RISE (R151). -/
  | bitWaitRise
  /-- BIT_SAMPLE (R152). -/
  | bitSample
  /-- BIT_WAIT_FALL (R153). -/
  | bitWaitFall
  /-- DECODE (R176). -/
  | decode
  /-- FAILED (R177). -/
  | failed
  /-- FINALIZE (R178). -/
  | finalize
  /-- DRIVE_LOW (R103). -/
  | driveLow
  /-- DRIVE_HIGH_RELEASE with its high time `t` in µs (R104). -/
  | driveHighRelease (t : Nat)
  /-- RELEASE (R105). -/
  | release
  /-- SAMPLE (R106). -/
  | sample
  /-- IDLE_HIGH (R107). -/
  | idleHigh
  /-- DELAY with its nominal duration `n` in µs (R100). -/
  | delay (n : Nat)
  /-- ELAPSED with the bound `b` in µs of the wait polled (R101). -/
  | elapsed (b : Nat)
  deriving DecidableEq, Repr

namespace Instr

/-- The format a row's code has (spec/opcode_table.json). -/
def format : Instr → Format
  | nop | init | read => .cmd
  | idle | wakeLow | releaseHigh | awaitAck0 | awaitAck1 | awaitAckEnd | ready => .ustate
  | bitWaitRise | bitSample | bitWaitFall | decode | failed | finalize => .ustate
  | driveLow | driveHighRelease _ | release | sample | idleHigh | delay _ | elapsed _ => .prim

/-- The row's mnemonic. -/
def mnemonic : Instr → String
  | nop => "NOP"
  | init => "INIT"
  | read => "READ"
  | idle => "IDLE"
  | wakeLow => "WAKE_LOW"
  | releaseHigh => "RELEASE_HIGH"
  | awaitAck0 => "AWAIT_ACK0"
  | awaitAck1 => "AWAIT_ACK1"
  | awaitAckEnd => "AWAIT_ACK_END"
  | ready => "READY"
  | bitWaitRise => "BIT_WAIT_RISE"
  | bitSample => "BIT_SAMPLE"
  | bitWaitFall => "BIT_WAIT_FALL"
  | decode => "DECODE"
  | failed => "FAILED"
  | finalize => "FINALIZE"
  | driveLow => "DRIVE_LOW"
  | driveHighRelease _ => "DRIVE_HIGH_RELEASE"
  | release => "RELEASE"
  | sample => "SAMPLE"
  | idleHigh => "IDLE_HIGH"
  | delay _ => "DELAY"
  | elapsed _ => "ELAPSED"

end Instr

/-- The width of a format in bits (R70). -/
def Format.width : Format → Nat
  | .cmd => 2
  | .ustate => 4
  | .linestate => 2
  | .prim => 3
  | .cause => 3
  | .frame => 40

end Sys2Proof
end

