-- ==== Sys2Proof/Decode.lean ====
section
/-! DEFINITION. The encodings of spec/30_encoding.md: the codes of commands, states, line modes, primitives and causes
(rules R71 to R75), the total decoder (R79, R80), and the encoder. -/

namespace Sys2Proof

/-- The codes of `fsm` (R72). -/
abbrev Fsm.idle : FsmWord := 0b0000#4
abbrev Fsm.wakeLow : FsmWord := 0b0001#4
abbrev Fsm.releaseHigh : FsmWord := 0b0010#4
abbrev Fsm.awaitAck0 : FsmWord := 0b0011#4
abbrev Fsm.awaitAck1 : FsmWord := 0b0100#4
abbrev Fsm.awaitAckEnd : FsmWord := 0b0101#4
abbrev Fsm.ready : FsmWord := 0b0110#4
abbrev Fsm.bitWaitRise : FsmWord := 0b0111#4
abbrev Fsm.bitSample : FsmWord := 0b1000#4
abbrev Fsm.bitWaitFall : FsmWord := 0b1001#4
abbrev Fsm.decode : FsmWord := 0b1010#4
abbrev Fsm.failed : FsmWord := 0b1011#4
abbrev Fsm.finalize : FsmWord := 0b1100#4

/-- The codes of `cause` (R75). -/
abbrev Cause.ok : CauseWord := 0b000#3
abbrev Cause.handshakeNoResponse : CauseWord := 0b001#3
abbrev Cause.handshakeAckMissing : CauseWord := 0b010#3
abbrev Cause.transmissionHang : CauseWord := 0b011#3
abbrev Cause.checksumMismatch : CauseWord := 0b100#3

/-- The reserved codes of `cause`, `101` to `111` (R79). -/
def reservedCause (c : CauseWord) : Bool := decide (5 ≤ c.toNat)

/-- The code of a line mode (R73). -/
def LineState.code : LineState → BitVec 2
  | .idle => 0b00#2
  | .drivingLow => 0b01#2
  | .drivingHigh => 0b10#2
  | .listening => 0b11#2

/-- Every 2-bit code is a line mode (R80). -/
def LineState.ofCode (w : BitVec 2) : LineState :=
  match w.toNat with
  | 0 => .idle
  | 1 => .drivingLow
  | 2 => .drivingHigh
  | _ => .listening

/-- A word of one of the three operation formats. A primitive's operand travels beside its code: the code has no bits
for it (spec/opcode_table.json, "event payload, not encoded"). -/
inductive CodeWord where
  | cmd (w : BitVec 2)
  | ustate (w : FsmWord)
  | prim (w : BitVec 3) (operand : Nat)
  deriving DecidableEq, Repr

/-- A command word (R71); `11` is reserved. -/
def decodeCommand (w : BitVec 2) : Option Instr :=
  match w.toNat with
  | 0 => some .nop
  | 1 => some .init
  | 2 => some .read
  | _ => none

/-- A state code (R72); `1101` to `1111` are reserved. -/
def decodeState (w : FsmWord) : Option Instr :=
  match w.toNat with
  | 0 => some .idle
  | 1 => some .wakeLow
  | 2 => some .releaseHigh
  | 3 => some .awaitAck0
  | 4 => some .awaitAck1
  | 5 => some .awaitAckEnd
  | 6 => some .ready
  | 7 => some .bitWaitRise
  | 8 => some .bitSample
  | 9 => some .bitWaitFall
  | 10 => some .decode
  | 11 => some .failed
  | 12 => some .finalize
  | _ => none

/-- A primitive that takes no operand is spelled with operand 0 alone. -/
def withoutOperand (i : Instr) : Nat → Option Instr
  | 0 => some i
  | _ + 1 => none

/-- A primitive code with its operand (R74); `111` is reserved. -/
def decodePrimitive (w : BitVec 3) (operand : Nat) : Option Instr :=
  match w.toNat with
  | 0 => withoutOperand .driveLow operand
  | 1 => some (.driveHighRelease operand)
  | 2 => withoutOperand .release operand
  | 3 => withoutOperand .sample operand
  | 4 => withoutOperand .idleHigh operand
  | 5 => some (.delay operand)
  | 6 => some (.elapsed operand)
  | _ => none

/-- The decoder, total on every word (R80). -/
def decode : CodeWord → Option Instr
  | .cmd w => decodeCommand w
  | .ustate w => decodeState w
  | .prim w operand => decodePrimitive w operand

/-- The encoder, from the same tables (R71, R72, R74). -/
def encode : Instr → CodeWord
  | .nop => .cmd 0b00#2
  | .init => .cmd 0b01#2
  | .read => .cmd 0b10#2
  | .idle => .ustate 0b0000#4
  | .wakeLow => .ustate 0b0001#4
  | .releaseHigh => .ustate 0b0010#4
  | .awaitAck0 => .ustate 0b0011#4
  | .awaitAck1 => .ustate 0b0100#4
  | .awaitAckEnd => .ustate 0b0101#4
  | .ready => .ustate 0b0110#4
  | .bitWaitRise => .ustate 0b0111#4
  | .bitSample => .ustate 0b1000#4
  | .bitWaitFall => .ustate 0b1001#4
  | .decode => .ustate 0b1010#4
  | .failed => .ustate 0b1011#4
  | .finalize => .ustate 0b1100#4
  | .driveLow => .prim 0b000#3 0
  | .driveHighRelease t => .prim 0b001#3 t
  | .release => .prim 0b010#3 0
  | .sample => .prim 0b011#3 0
  | .idleHigh => .prim 0b100#3 0
  | .delay n => .prim 0b101#3 n
  | .elapsed b => .prim 0b110#3 b

/-- The format of a word. -/
def CodeWord.format : CodeWord → Format
  | .cmd _ => .cmd
  | .ustate _ => .ustate
  | .prim _ _ => .prim

/-- The code of a word as the table writes it, bit 0 least significant. -/
def CodeWord.code : CodeWord → Nat
  | .cmd w => w.toNat
  | .ustate w => w.toNat
  | .prim w _ => w.toNat

/-- The word a table row of `nbits` bits spells. The three formats have three widths, so the width names the format
(R70); a row given as one whole byte is read as a state code (log entry 9, DESIGN CHOICE). The operand is 0. -/
def CodeWord.ofTable (nbits w : Nat) : Option CodeWord :=
  match nbits with
  | 2 => if w < 4 then some (.cmd (BitVec.ofNat 2 w)) else none
  | 3 => if w < 8 then some (.prim (BitVec.ofNat 3 w) 0) else none
  | 4 => if w < 16 then some (.ustate (BitVec.ofNat 4 w)) else none
  | 8 => if w < 16 then some (.ustate (BitVec.ofNat 4 w)) else none
  | _ => none

/-- The operation the decoder reads from a table row's bits. -/
def decodeTableWord (nbits w : Nat) : Option Instr :=
  (CodeWord.ofTable nbits w).bind decode

end Sys2Proof
end

