-- ==== Sys2Proof/Config.lean ====
section
/-! DEFINITION. The implementation parameters of spec/00_scope.md rule R7, the legality check of rule R8, the clock
contract of spec/40_line_clock.md rule R102, and the free values: what the two oracles answer (R63, R101). -/

namespace Sys2Proof

/-- The parameters the block is elaborated with (R7). A state carries a copy that no step writes. The frame's widths
(40, 16, 16, 8) are the widths of the word types. -/
structure Config where
  /-- `T_WAKE` in µs; legal from 10000 on. -/
  tWake : Nat
  /-- `T_REL` in µs; legal from 20 to 40. -/
  tRel : Nat
  tAck0 : Nat
  tAck1 : Nat
  tBit : Nat
  /-- `VERIFY_CHECKSUM` (D14). -/
  verifyChecksum : Bool
  /-- `WAIT_BOUND_ACKEND`; `none` is unbounded (D15). -/
  boundAckEnd : Option Nat
  /-- `WAIT_BOUND_RISE`. -/
  boundRise : Option Nat
  /-- `WAIT_BOUND_FALL`. -/
  boundFall : Option Nat
  /-- `CLOCK_WIDTH` in bits, OPEN (D24). No step reads it. -/
  clockWidth : Nat
  /-- `LINE_ID`, which line this instance is wired to (D20). No step reads it. -/
  lineId : Nat
  /-- `CLOCK_ID`. No step reads it. -/
  clockId : Nat
  deriving DecidableEq, Repr

namespace Config

/-- `FRAME_BITS` (R7). -/
abbrev frameBits : Nat := 40

/-- The clock width the implementation has: OPEN in the spec, so a constant without a body. -/
opaque openClockWidth : Nat

/-- The line this instance is wired to: opaque in R7. -/
opaque wiredLine : Nat

/-- The clock this instance is wired to: opaque in R7. -/
opaque wiredClock : Nat

/-- The line oracle's free answer (R63): any bit, which may depend on the whole history before the sample and on a free
choice. It is applied to the state's draw counter and history, when no listed answer is pending. -/
opaque freeLineLevel : Nat → List Event → Bool

/-- The clock oracle's free answer to `TimedOut(B)` (R101): any Bool, which may depend on the history, on the bound and
on a free choice. -/
opaque freeTimeout : Nat → List Event → Nat → Bool

/-- The reference configuration with the default parameters (R3, R7). -/
def reference : Config where
  tWake := 10000
  tRel := 30
  tAck0 := 40
  tAck1 := 80
  tBit := 40
  verifyChecksum := false
  boundAckEnd := none
  boundRise := none
  boundFall := none
  clockWidth := openClockWidth
  lineId := wiredLine
  clockId := wiredClock

/-- A wait bound is legal when it is absent or at least 1 µs (R8). -/
def legalBound : Option Nat → Bool
  | none => true
  | some b => decide (1 ≤ b)

/-- The configurations the spec gives a meaning (R8). R7 gives `T_ACK0`, `T_ACK1` and `T_BIT` no legal range, so 0 is legal
here, although R100 says that no state calls `Delay(0)` (log entry 24, DESIGN CHOICE). -/
def legal (c : Config) : Bool :=
  decide (10000 ≤ c.tWake) && decide (20 ≤ c.tRel) && decide (c.tRel ≤ 40) &&
    legalBound c.boundAckEnd && legalBound c.boundRise && legalBound c.boundFall

/-- Several instances are legal together when each is legal and no two share a line or a clock: both belong to one
instance (R109), and each instance has its own `LINE_ID` and `CLOCK_ID` (R234). The rules name the refusal for a line; that
a shared clock is refused too is read from them (log entry 17, DEDUCED). -/
def legalSystem (cs : List Config) : Bool :=
  cs.all legal && decide ((cs.map lineId).Nodup) && decide ((cs.map clockId).Nodup)

/-- The intervals a block of this configuration has its clock measure (R102). -/
def measuredIntervals (c : Config) : List Nat :=
  c.tWake :: (c.boundAckEnd.toList ++ c.boundRise.toList ++ c.boundFall.toList)

/-- A conforming clock's counter does not wrap within an interval it measures (R102). R102 leaves the tick rate open and
takes microsecond ticks as its example; one tick a µs is the model's choice (log entry 25, DESIGN CHOICE). -/
def clockConforms (c : Config) : Bool :=
  c.measuredIntervals.all fun b => decide (b < 2 ^ c.clockWidth)

/-- The durations a `Delay` can have (R100). -/
def delays (c : Config) : List Nat :=
  [c.tWake, c.tRel, c.tAck0, c.tAck1, c.tBit]

end Config

end Sys2Proof
end

