-- ==== Sys2Proof/Machine/State.lean ====
section
/-! DEFINITION. The state of the machine: the registers of spec/10_state.md rule R20, the model's bookkeeping of the same
rule, the configuration, and the pending moves and answers of the other agents (host, line environment, clock). -/

namespace Sys2Proof.Machine

/-- Why the machine stops with a fault (R11, R225, spec/93_implementation_defined.md). -/
inductive Fault where
  /-- `fsm` holds a reserved code, `1101` to `1111`: raised by `step` (R79). Safe: no later state is claimed. -/
  | illegalState
  /-- The host's GET found a result that was never written: raised by `hostGet`, because R207 says "When `busy = 0` and the
  written tag of `rh`, `temp` or `cause` is false, GET faults (`ReadUnwritten`)" (also R11, R26, R225, and
  spec/93_implementation_defined.md I6: `fault`). Safe. -/
  | readUnwritten
  /-- A bare primitive turn spells no primitive, `PRIM = 111`: raised by `step` (R79, item I3). Safe. -/
  | reservedPrimitive
  /-- `cause` was written and holds a reserved code: raised by `step` (R79, item I4). Safe. -/
  | reservedCause
  deriving DecidableEq, Repr

/-- Why the machine gives no meaning to a step. -/
inductive Refusal where
  /-- An operation with no meaning in this model: raised by `exec` alone, for no operation at present. Safe. -/
  | notModelled (mnemonic : String)
  /-- The configuration is illegal: raised by `step` (R8). Safe: the spec gives such a block no meaning. -/
  | illegalConfiguration
  deriving DecidableEq, Repr

/-- The reasons a host's move, or the configuration, is refused (R225). -/
inductive RefusalReason where
  | reservedCommand
  | commandWhileBusy
  | readBeforeInit
  | readWhileBusy
  | illegalConfiguration
  deriving DecidableEq, Repr

/-- One agent's move (R201). -/
inductive Turn where
  /-- The block runs the rule of its current state. -/
  | block
  /-- The host presents a command word. -/
  | command (w : BitVec 2)
  /-- The host reads the result ports (R207). -/
  | get
  /-- The host waits, with NOPs, until `busy = 0` (WAITDONE, R82); the block moves meanwhile. -/
  | waitDone
  /-- A Line or Clock primitive runs by itself (log entry 8, DESIGN CHOICE). -/
  | primitive (w : BitVec 3) (operand : Nat)
  deriving DecidableEq, Repr

/-- The words a GET returns: `rh_out`, `temp_out`, `status_out` (R207). -/
structure PortWords where
  rh : ResultWord
  temp : ResultWord
  status : CauseWord
  deriving DecidableEq, Repr

/-- The machine's state. -/
structure State where
  /-- The elaboration parameters (R7); no step writes them. -/
  cfg : Config
  /-- The sequencer (R21). -/
  fsm : FsmWord
  /-- The frame shift register (R22). -/
  sr : FrameWord
  /-- The number of frame bits sampled in this read (R24). -/
  cnt : CountWord
  /-- The line mode (R25). -/
  mode : LineState
  /-- The humidity result and its written tag (R26). -/
  rh : ResultWord
  rhWritten : Bool
  /-- The temperature result and its written tag (R26). -/
  temp : ResultWord
  tempWritten : Bool
  /-- The outcome of the last read and its written tag (R27). -/
  cause : CauseWord
  causeWritten : Bool
  /-- Set once INIT has been accepted (R28). -/
  bound : Bool
  /-- The event history `H`, oldest first (R62). -/
  hist : List Event
  /-- The refusal mark: set when not empty, with each reason refused so far (R14, R225). -/
  refusalMark : List RefusalReason
  /-- The fault mark (R20, R225). -/
  faultMark : Option Fault
  /-- The model's own: the agents' moves still to come; when empty, the block moves (R201). -/
  agenda : List Turn
  /-- The model's own: the line oracle's next answers; when empty, the free answer (R63). -/
  lineIn : List Bool
  /-- The model's own: the clock oracle's next answers; when empty, the free answer (R101). -/
  clockIn : List Bool
  /-- The model's own: the number of oracle answers taken, the free choice of the free answers. -/
  draws : Nat
  /-- The model's own: what the host's last GET returned (R207). -/
  hostGot : Option PortWords
  deriving DecidableEq, Repr

/-- What reset leaves unspecified or unwritten (R34). -/
structure ResetDraw where
  mode : LineState
  sr : FrameWord
  cnt : CountWord
  rh : ResultWord
  temp : ResultWord
  cause : CauseWord
  deriving DecidableEq, Repr

/-- The state after reset of a block of configuration `c`, for one draw of what R34 leaves unspecified. -/
def State.resetWith (c : Config) (d : ResetDraw) : State where
  cfg := c
  fsm := 0b0000#4
  sr := d.sr
  cnt := d.cnt
  mode := d.mode
  rh := d.rh
  rhWritten := false
  temp := d.temp
  tempWritten := false
  cause := d.cause
  causeWritten := false
  bound := false
  hist := []
  refusalMark := []
  faultMark := none
  agenda := []
  lineIn := []
  clockIn := []
  draws := 0
  hostGot := none

/-- The draw the model names: every register 0, the mode Idle (log entry 1, DESIGN CHOICE). -/
def ResetDraw.zero : ResetDraw where
  mode := .idle
  sr := 0#40
  cnt := 0#6
  rh := 0#16
  temp := 0#16
  cause := 0#3

/-- The machine right after reset, in the reference configuration. -/
def State.reset : State := State.resetWith Config.reference ResetDraw.zero

end Sys2Proof.Machine
end

