-- ==== Sys2Proof/Machine/Operands.lean ====
section
/-! DEFINITION. The datapath functions over the frame: its fields (spec/30_encoding.md rules R76, R77), the shift, the
sign-magnitude decoder, the humidity reading and the checksum (spec/43_frame_assembler.md rules R171 to R175), and the
sensor-side encoding of rule R180. -/

namespace Sys2Proof.Machine

/-- `Shift40(s, v)`: the new bit enters at bit 0, bit 39 is discarded (R171). -/
def shift40 (s : FrameWord) (v : Bool) : FrameWord :=
  (s <<< 1) ||| BitVec.setWidth 40 (BitVec.ofBool v)

/-- `H = sr[39:24]` (R77). -/
def humidityField (sr : FrameWord) : ResultWord := sr.extractLsb' 24 16

/-- `T = sr[23:8]` (R77). -/
def temperatureField (sr : FrameWord) : ResultWord := sr.extractLsb' 8 16

/-- `C = sr[7:0]` (R77). -/
def checksumField (sr : FrameWord) : BitVec 8 := sr.extractLsb' 0 8

/-- `B4 = sr[39:32]`, HumidityHigh (R76, R77). -/
def humidityHigh (sr : FrameWord) : BitVec 8 := sr.extractLsb' 32 8

/-- `B3 = sr[31:24]`, HumidityLow. -/
def humidityLow (sr : FrameWord) : BitVec 8 := sr.extractLsb' 24 8

/-- `B2 = sr[23:16]`, TempHigh. -/
def tempHigh (sr : FrameWord) : BitVec 8 := sr.extractLsb' 16 8

/-- `B1 = sr[15:8]`, TempLow. -/
def tempLow (sr : FrameWord) : BitVec 8 := sr.extractLsb' 8 8

/-- `u16(x)`: the 16-bit pattern of an integer (R12). -/
def u16 (x : Int) : ResultWord := BitVec.ofInt 16 x

/-- `s16(p)`: the two's complement value of a 16-bit pattern (R12). -/
def s16 (p : ResultWord) : Int := if p.getLsbD 15 then (p.toNat : Int) - 65536 else p.toNat

/-- The sign-magnitude decoder `SM` (R173): bit 15 is the sign, bits 14 to 0 the magnitude. -/
def signMagnitude (t : ResultWord) : Int :=
  let magnitude : Nat := (t.extractLsb' 0 15).toNat
  if t.getLsbD 15 then -(magnitude : Int) else magnitude

/-- The word DECODE writes to `temp`: `u16(SM(T))` (R78, R176). -/
def temperatureWord (t : ResultWord) : ResultWord := u16 (signMagnitude t)

/-- `CK(sr)`: the sum of the four data bytes mod 256 (R175). -/
def checksum (sr : FrameWord) : Nat :=
  ((humidityHigh sr).toNat + (humidityLow sr).toNat + (tempHigh sr).toNat + (tempLow sr).toNat) % 256

/-- `ChkOK(sr)` (R175). -/
def checksumOk (sr : FrameWord) : Bool := decide (checksum sr = (checksumField sr).toNat)

/-- `EncH(h)`: the sensor's humidity field (R180). -/
def encodeHumidity (h : Int) : ResultWord := u16 h

/-- `EncT(t)`: the sensor's sign-magnitude temperature field (R180). -/
def encodeTemperature (t : Int) : ResultWord :=
  if t < 0 then 0x8000#16 ||| u16 (-t) else u16 t

/-- `Frame(h, t, c) = {EncH(h), EncT(t), c}` (R180). -/
def frameOf (h t : Int) (c : BitVec 8) : FrameWord :=
  (encodeHumidity h ++ encodeTemperature t) ++ c

/-- The wire bits of a frame, first sampled first: wire bit `i` is `sr[39 - i]` (R76). -/
def wireBits (f : FrameWord) : List Bool :=
  (List.range 40).map fun i => f.getLsbD (39 - i)

/-- The time between two readings of a free-running clock counter of `width` bits (R102). -/
def elapsedTicks (width now start : Nat) : Nat :=
  (((now : Int) - (start : Int)) % ((2 : Int) ^ width)).toNat

end Sys2Proof.Machine
end

