-- ==== Sys2Proof/Machine/Flags.lean ====
section
/-! DEFINITION. The status outputs computed from the registers: `busy` (spec/10_state.md rule R29), the pad view of the
line mode (spec/30_encoding.md rule R73), the result ports (rules R78, R200) and the Reading (R207). -/

namespace Sys2Proof.Machine

/-- `busy = (fsm != IDLE)` (R29). -/
def busy (s : State) : Bool := decide (s.fsm ≠ Fsm.idle)

/-- `line_oe = (mode != Listening)`: the pad drives the wire (R73). -/
def lineOe (m : LineState) : Bool := decide (m ≠ .listening)

/-- `line_out = (mode != DrivingLow)`: the level driven when `line_oe` is 1 (R73). -/
def lineOut (m : LineState) : Bool := decide (m ≠ .drivingLow)

/-- The level the pad puts on the wire: none while it is high impedance (R73). -/
def padDrive (m : LineState) : Option Bool := if lineOe m then some (lineOut m) else none

/-- The result ports `rh_out`, `temp_out` and `status_out` (R78). -/
def ports (s : State) : PortWords where
  rh := s.rh
  temp := s.temp
  status := s.cause

/-- All three results carry their written tag. -/
def resultsWritten (s : State) : Bool := s.rhWritten && s.tempWritten && s.causeWritten

/-- The source's Reading, in tenths (R207). -/
structure Reading where
  relativeHumidityTenths : Int
  temperatureTenths : Int
  deriving DecidableEq, Repr

/-- The Reading that the port words stand for (R207). -/
def readingOf (p : PortWords) : Reading where
  relativeHumidityTenths := s16 p.rh
  temperatureTenths := s16 p.temp

end Sys2Proof.Machine
end

