-- ==== Sys2Proof/Machine/Ops.lean ====
section
/-! DEFINITION. The shared operations of the meanings: events, the line and clock primitives (spec/40_line_clock.md), the
oracles' answers (spec/20_memory.md rules R63, R64), one poll of a busy-wait, raising a failure and returning from one
(spec/60_exceptions.md rules R220, R228, R229), and the host's GET (spec/44_host_commands.md rule R207). -/

namespace Sys2Proof.Machine

/-- `Emit(e)`: append an event to the history (R14, R55). -/
def emit (e : Event) (s : State) : State := { s with hist := s.hist ++ [e] }

/-- `next <- S` (R13). -/
def goto (f : FsmWord) (s : State) : State := { s with fsm := f }

/-- `SetMode(m)`: the one operation that writes `mode` (R14, R25, R108). -/
def setMode (m : LineState) (s : State) : State := emit (.mode m) { s with mode := m }

/-- `Delay(n)`: the clock completes it, and only its event remains (R100). -/
def delay (n : Nat) (s : State) : State := emit (.delay n) s

/-- DRIVE_HIGH_RELEASE: high for `t` µs, then release (R104). -/
def driveHighRelease (t : Nat) (s : State) : State :=
  setMode .listening (delay t (setMode .drivingHigh s))

/-- The line oracle's answer to a sample taken now: the next listed one, else the free answer (R63). -/
def lineLevel (s : State) : Bool :=
  match s.lineIn with
  | [] => Config.freeLineLevel s.draws s.hist
  | v :: _ => v

/-- The line oracle has answered. -/
def takeLineAnswer (s : State) : State := { s with lineIn := s.lineIn.tail, draws := s.draws + 1 }

/-- The state after `Sample()`, whose returned bit is `lineLevel` of the state before it (R106). -/
def sampled (s : State) : State := emit (.sample (lineLevel s)) (takeLineAnswer s)

/-- The clock oracle's answer to `TimedOut(b)` asked now (R101). -/
def clockAnswer (b : Nat) (s : State) : Bool :=
  match s.clockIn with
  | [] => Config.freeTimeout s.draws s.hist b
  | t :: _ => t

/-- The clock oracle has answered. -/
def takeClockAnswer (s : State) : State := { s with clockIn := s.clockIn.tail, draws := s.draws + 1 }

/-- The state after `TimedOut(b)`, whose returned Bool is `clockAnswer b` of the state before it (R101). -/
def timeoutAsked (b : Nat) (s : State) : State := emit (.elapsed (clockAnswer b s)) (takeClockAnswer s)

/-- Write `cause` and its written tag (R27). -/
def writeCause (c : CauseWord) (s : State) : State := { s with cause := c, causeWritten := true }

/-- Write both results and their written tags (R26). -/
def writeResults (h t : ResultWord) (s : State) : State :=
  { s with rh := h, rhWritten := true, temp := t, tempWritten := true }

/-- READ's clearing of the datapath: `sr <- 0; cnt <- 0` (R204). -/
def clearFrame (s : State) : State := { s with sr := 0#40, cnt := 0#6 }

/-- BIT_SAMPLE's datapath writes: shift one bit in and count it (R152). -/
def shiftIn (v : Bool) (s : State) : State := { s with sr := shift40 s.sr v, cnt := s.cnt + 1#6 }

/-- INIT's binding to the configured line and clock (R28, R203). -/
def bindLine (s : State) : State := { s with bound := true }

/-- `raise Failure(c)`, taking a failure: `cause <- c; next <- FAILED`, and nothing else is saved (R220, R228). -/
def raiseFailure (c : CauseWord) (s : State) : State := goto Fsm.failed (writeCause c s)

/-- The return from a read, good or failed: the line is set idle, `Done` is emitted, IDLE is entered (R178, R229). -/
def finishRead (s : State) : State :=
  let t := setMode .idle s
  goto Fsm.idle (emit (.done t.rh t.temp t.cause) t)

/-- The state entered once a bit is complete: DECODE after the 40th, else the wait for the next (R152, R153). -/
def afterBit (cnt : CountWord) : FsmWord :=
  if cnt.toNat = Config.frameBits then Fsm.decode else Fsm.bitWaitRise

/-- One poll of a busy-wait in state `again`. The sample comes first; an exit level leaves for `exit` without asking the
clock; a stay level asks it only when the wait is bounded, and a true answer is a TRANSMISSION_HANG (R126, R227). -/
def poll (exitLevel : Bool) (bound : Option Nat) (exit again : FsmWord) (s : State) : State :=
  if lineLevel s = exitLevel then goto exit (sampled s)
  else
    match bound with
    | none => goto again (sampled s)
    | some b =>
      if clockAnswer b (sampled s) then raiseFailure Cause.transmissionHang (timeoutAsked b (sampled s))
      else goto again (timeoutAsked b (sampled s))

/-- The refusal mark with one reason more; a reason already there is kept once. -/
def addReason (r : RefusalReason) (l : List RefusalReason) : List RefusalReason :=
  if r ∈ l then l else l ++ [r]

/-- `Refuse(reason)`: set the refusal mark with its reason and change nothing else (R14). -/
def refuse (r : RefusalReason) (s : State) : State := { s with refusalMark := addReason r s.refusalMark }

/-- The host keeps the words its GET returned. -/
def latchPorts (s : State) : State := { s with hostGot := some (ports s) }

/-- The host's GET (R207): refused while busy; "When `busy = 0` and the written tag of `rh`, `temp` or `cause` is false,
GET faults (`ReadUnwritten`)"; else the port words. -/
def hostGet (s : State) : Host.Outcome State Fault Refusal :=
  if busy s then .next (refuse .readWhileBusy s)
  else if resultsWritten s then .next (latchPorts s)
  else .fault .readUnwritten

/-- The turn that has just been taken leaves the agenda. -/
def endTurn (rest : List Turn) (s : State) : State := { s with agenda := rest }

/-- The host decides on further turns, which come after those already listed (R201: "The host may move at any time"). -/
def schedule (turns : List Turn) (s : State) : State := { s with agenda := s.agenda ++ turns }

end Sys2Proof.Machine
end

