-- ==== Sys2Proof/Machine/BitDecoder.lean ====
section
/-! DEFINITION. The meanings of the bit discriminator's states (spec/42_bit_decoder.md rules R151 to R153). -/

namespace Sys2Proof.Machine

/-- BIT_WAIT_RISE: poll until the line is high (R151). -/
def execBitWaitRise (s : State) : Host.Outcome State Fault Refusal :=
  .next (poll true s.cfg.boundRise Fsm.bitSample Fsm.bitWaitRise s)

/-- BIT_SAMPLE: after `T_BIT` the level is the bit; shift it in, count it; a 1 waits for the fall (R152). -/
def execBitSample (s : State) : Host.Outcome State Fault Refusal :=
  let t := delay s.cfg.tBit s
  let u := shiftIn (lineLevel t) (sampled t)
  .next (goto (if lineLevel t then Fsm.bitWaitFall else afterBit u.cnt) u)

/-- BIT_WAIT_FALL: poll until the line is low (R153). -/
def execBitWaitFall (s : State) : Host.Outcome State Fault Refusal :=
  .next (poll false s.cfg.boundFall (afterBit s.cnt) Fsm.bitWaitFall s)

end Sys2Proof.Machine
end

