-- ==== Sys2Proof/Machine/Commands.lean ====
section
/-! DEFINITION. The meanings of the host commands (spec/44_host_commands.md rules R202 to R204, R206). -/

namespace Sys2Proof.Machine

/-- NOP: nothing, in any state (R202). -/
def execNop (s : State) : Host.Outcome State Fault Refusal := .next s

/-- INIT: refused while busy; else record it, bind, and set the line idle (R203). -/
def execInit (s : State) : Host.Outcome State Fault Refusal :=
  .next (if busy s then refuse .commandWhileBusy s
    else setMode .idle (bindLine (emit (.cmd .init) s)))

/-- READ: refused while busy or unbound; else record it, clear the datapath and `cause`, start the wake pulse and enter
WAKE_LOW (R204). -/
def execRead (s : State) : Host.Outcome State Fault Refusal :=
  .next (if busy s then refuse .commandWhileBusy s
    else if s.bound then
      goto Fsm.wakeLow (setMode .drivingLow (writeCause Cause.ok (clearFrame (emit (.cmd .read) s))))
    else refuse .readBeforeInit s)

end Sys2Proof.Machine
end

