-- ==== Sys2Proof/Machine/FrameEnd.lean ====
section
/-! DEFINITION. The meanings of the frame-end states (spec/43_frame_assembler.md rules R176 to R178). -/

namespace Sys2Proof.Machine

/-- DECODE: under `VERIFY_CHECKSUM` a wrong checksum is CHECKSUM_MISMATCH; else the results are written (R176). -/
def execDecode (s : State) : Host.Outcome State Fault Refusal :=
  .next (if s.cfg.verifyChecksum && !checksumOk s.sr then raiseFailure Cause.checksumMismatch s
    else goto Fsm.finalize
      (writeResults (humidityField s.sr) (temperatureWord (temperatureField s.sr)) s))

/-- FAILED: the sentinel reading `{0, 0}` (R177). -/
def execFailed (s : State) : Host.Outcome State Fault Refusal :=
  .next (goto Fsm.finalize (writeResults 0#16 0#16 s))

/-- FINALIZE: the line idle, `Done`, and back to IDLE (R178). -/
def execFinalize (s : State) : Host.Outcome State Fault Refusal := .next (finishRead s)

end Sys2Proof.Machine
end

