-- ==== Sys2Proof/Machine/Handshake.lean ====
section
/-! DEFINITION. The meanings of the handshake states (spec/41_handshake.md rules R121 to R127). -/

namespace Sys2Proof.Machine

/-- IDLE: the block takes no step of its own (R121). -/
def execIdle (s : State) : Host.Outcome State Fault Refusal := .next s

/-- WAKE_LOW: hold the line low for `T_WAKE` (R122). -/
def execWakeLow (s : State) : Host.Outcome State Fault Refusal :=
  .next (goto Fsm.releaseHigh (delay s.cfg.tWake s))

/-- RELEASE_HIGH: drive high for `T_REL`, then listen (R123). -/
def execReleaseHigh (s : State) : Host.Outcome State Fault Refusal :=
  .next (goto Fsm.awaitAck0 (driveHighRelease s.cfg.tRel s))

/-- AWAIT_ACK0: after `T_ACK0` a high sample is HANDSHAKE_NO_RESPONSE (R124). -/
def execAwaitAck0 (s : State) : Host.Outcome State Fault Refusal :=
  let t := delay s.cfg.tAck0 s
  .next (if lineLevel t then raiseFailure Cause.handshakeNoResponse (sampled t)
    else goto Fsm.awaitAck1 (sampled t))

/-- AWAIT_ACK1: after `T_ACK1` a low sample is HANDSHAKE_ACK_MISSING (R125). -/
def execAwaitAck1 (s : State) : Host.Outcome State Fault Refusal :=
  let t := delay s.cfg.tAck1 s
  .next (if lineLevel t then goto Fsm.awaitAckEnd (sampled t)
    else raiseFailure Cause.handshakeAckMissing (sampled t))

/-- AWAIT_ACK_END: poll until the line is low (R126). -/
def execAwaitAckEnd (s : State) : Host.Outcome State Fault Refusal :=
  .next (poll false s.cfg.boundAckEnd Fsm.ready Fsm.awaitAckEnd s)

/-- READY: go on to the bits (R127). -/
def execReady (s : State) : Host.Outcome State Fault Refusal := .next (goto Fsm.bitWaitRise s)

end Sys2Proof.Machine
end

