-- ==== Sys2Proof/Machine/Primitives.lean ====
section
/-! DEFINITION. The meanings of the Line and Clock primitives by themselves (spec/40_line_clock.md rules R100 to R107). -/

namespace Sys2Proof.Machine

/-- DRIVE_LOW (R103). -/
def execDriveLow (s : State) : Host.Outcome State Fault Refusal := .next (setMode .drivingLow s)

/-- DRIVE_HIGH_RELEASE (R104). -/
def execDriveHighRelease (t : Nat) (s : State) : Host.Outcome State Fault Refusal :=
  .next (driveHighRelease t s)

/-- RELEASE (R105). -/
def execRelease (s : State) : Host.Outcome State Fault Refusal := .next (setMode .listening s)

/-- SAMPLE (R106). -/
def execSample (s : State) : Host.Outcome State Fault Refusal := .next (sampled s)

/-- IDLE_HIGH (R107). -/
def execIdleHigh (s : State) : Host.Outcome State Fault Refusal := .next (setMode .idle s)

/-- DELAY (R100). -/
def execDelay (n : Nat) (s : State) : Host.Outcome State Fault Refusal := .next (delay n s)

/-- ELAPSED (R101). -/
def execElapsed (b : Nat) (s : State) : Host.Outcome State Fault Refusal := .next (timeoutAsked b s)

end Sys2Proof.Machine
end

