-- ==== Sys2Proof/Machine/Dispatch.lean ====
section
/-! DEFINITION. One arm for each row of spec/opcode_table.json. -/

namespace Sys2Proof.Machine

def exec (i : Instr) (s : State) : Host.Outcome State Fault Refusal :=
  match i with
  -- host commands
  | .nop => Sys2Proof.Machine.execNop s
  | .init => Sys2Proof.Machine.execInit s
  | .read => Sys2Proof.Machine.execRead s
  -- handshake states
  | .idle => Sys2Proof.Machine.execIdle s
  | .wakeLow => Sys2Proof.Machine.execWakeLow s
  | .releaseHigh => Sys2Proof.Machine.execReleaseHigh s
  | .awaitAck0 => Sys2Proof.Machine.execAwaitAck0 s
  | .awaitAck1 => Sys2Proof.Machine.execAwaitAck1 s
  | .awaitAckEnd => Sys2Proof.Machine.execAwaitAckEnd s
  | .ready => Sys2Proof.Machine.execReady s
  -- bit discriminator states
  | .bitWaitRise => Sys2Proof.Machine.execBitWaitRise s
  | .bitSample => Sys2Proof.Machine.execBitSample s
  | .bitWaitFall => Sys2Proof.Machine.execBitWaitFall s
  -- frame-end states
  | .decode => Sys2Proof.Machine.execDecode s
  | .failed => Sys2Proof.Machine.execFailed s
  | .finalize => Sys2Proof.Machine.execFinalize s
  -- primitives
  | .driveLow => Sys2Proof.Machine.execDriveLow s
  | .driveHighRelease t => Sys2Proof.Machine.execDriveHighRelease t s
  | .release => Sys2Proof.Machine.execRelease s
  | .sample => Sys2Proof.Machine.execSample s
  | .idleHigh => Sys2Proof.Machine.execIdleHigh s
  | .delay n => Sys2Proof.Machine.execDelay n s
  | .elapsed b => Sys2Proof.Machine.execElapsed b s

end Sys2Proof.Machine
end

