-- ==== Sys2Proof/Machine/Fetch.lean ====
section
/-! DEFINITION. Which agent moves next and what it runs (spec/44_host_commands.md rule R201), what a reserved word does
(spec/30_encoding.md rule R79), and what stops the machine before any move. -/

namespace Sys2Proof.Machine

/-- What the next move is: a word to decode and run, or the host's GET. -/
inductive Move where
  | word (w : CodeWord)
  | get
  deriving DecidableEq, Repr

/-- The next move, and the state with that turn taken. With no turn listed the block moves; a waiting host stays on the
agenda until `busy = 0` (R82). -/
def fetch (s : State) : Move × State :=
  match s.agenda with
  | [] => (.word (.ustate s.fsm), s)
  | .block :: rest => (.word (.ustate s.fsm), endTurn rest s)
  | .command w :: rest => (.word (.cmd w), endTurn rest s)
  | .get :: rest => (.get, endTurn rest s)
  | .waitDone :: rest => if busy s then (.word (.ustate s.fsm), s) else (.word (.cmd 0b00#2), endTurn rest s)
  | .primitive w n :: rest => (.word (.prim w n), endTurn rest s)

/-- What a word that spells no operation does: the reserved command is refused (R205); a reserved state code and a
reserved primitive fault (R79). A reserved code in `fsm` itself has stopped the step before (`standingStop`). -/
def reservedWord (w : CodeWord) (s : State) : Host.Outcome State Fault Refusal :=
  match w with
  | .cmd _ => .next (refuse .reservedCommand s)
  | .ustate _ => .fault .illegalState
  | .prim _ _ => .fault .reservedPrimitive

/-- What stops the machine before any move: a fault mark, which is never cleared (R225); an illegal configuration (R8); a
reserved code found in `fsm`, or in a written `cause` (R79). -/
def standingStop (s : State) : Option (Host.Outcome State Fault Refusal) :=
  match s.faultMark with
  | some r => some (.fault r)
  | none =>
    if s.cfg.legal then
      if (decodeState s.fsm).isNone then some (.fault .illegalState)
      else if s.causeWritten && reservedCause s.cause then some (.fault .reservedCause)
      else none
    else some (.refused .illegalConfiguration)

/-- `s` with the word placed so that the next move is to run it. -/
def placeWord (w : CodeWord) (s : State) : State :=
  match w with
  | .cmd c => { s with agenda := .command c :: s.agenda }
  | .ustate f => { s with fsm := f, agenda := .block :: s.agenda }
  | .prim p n => { s with agenda := .primitive p n :: s.agenda }

end Sys2Proof.Machine
end

