-- ==== Sys2Proof/Machine/Step.lean ====
section
/-! DEFINITION. One step: one agent's move, run to completion (spec/00_scope.md rules R9, R11; spec/44_host_commands.md
rule R201). -/

namespace Sys2Proof.Machine

/-- Run a fetched move on the state with its turn taken. -/
def runMove (m : Move) (s : State) : Host.Outcome State Fault Refusal :=
  match m with
  | .get => hostGet s
  | .word w =>
    match decode w with
    | some i => exec i s
    | none => reservedWord w s

/-- One step of the machine. -/
def step (s : State) : Host.Outcome State Fault Refusal :=
  match standingStop s with
  | some o => o
  | none => runMove (fetch s).1 (fetch s).2

/-- `s` with a table row's word placed where the next step takes its move; a width or word the table does not have
leaves `s` as it is. -/
def State.withFetchWord (s : State) (nbits w : Nat) : State :=
  match CodeWord.ofTable nbits w with
  | some c => placeWord c s
  | none => s

end Sys2Proof.Machine
end

