-- ==== Sys2Proof/Machine/Stimulus.lean ====
section
/-! DEFINITION. Sensors as lists of line answers (spec/95_test_vectors.md section 1) and the events a read records for
them (spec/42_bit_decoder.md rule R156). They are premises of claims, never part of the machine's step (R63). -/

namespace Sys2Proof.Machine

/-- How one bit is answered: `rise` low polls before the rising edge, the bit, and, for a 1, `fall` high polls before the
falling edge (R156). -/
structure BitAnswers where
  rise : Nat
  bit : Bool
  fall : Nat
  deriving DecidableEq, Repr

/-- The samples of one bit, in order (R150). -/
def BitAnswers.samples (b : BitAnswers) : List Bool :=
  List.replicate b.rise false ++ [true, b.bit] ++
    if b.bit then List.replicate b.fall true ++ [false] else []

/-- The events of one bit in the reference configuration (R156). -/
def BitAnswers.events (tBit : Nat) (b : BitAnswers) : List Event :=
  List.replicate b.rise (.sample false) ++ [.sample true, .delay tBit, .sample b.bit] ++
    if b.bit then List.replicate b.fall (.sample true) ++ [.sample false] else []

/-- The block steps of one bit (R156). -/
def BitAnswers.steps (b : BitAnswers) : Nat := if b.bit then b.rise + b.fall + 3 else b.rise + 2

/-- The frame a list of answered bits shifts in, from `sr = 0` (R172). -/
def shiftedFrame (bits : List Bool) : FrameWord := bits.foldl shift40 0#40

/-- The samples of a whole read that succeeds: both acknowledgments, `k` high polls before the end of the second one, then
the bits (R130, R150). -/
def readSamples (k : Nat) (bits : List BitAnswers) : List Bool :=
  [false, true] ++ List.replicate k true ++ [false] ++ bits.flatMap BitAnswers.samples

/-- The events of a whole read from WAKE_LOW to DECODE in the reference configuration. -/
def readEvents (c : Config) (k : Nat) (bits : List BitAnswers) : List Event :=
  [.delay c.tWake, .mode .drivingHigh, .delay c.tRel, .mode .listening, .delay c.tAck0, .sample false,
    .delay c.tAck1, .sample true] ++ List.replicate k (.sample true) ++ [.sample false] ++
    bits.flatMap (BitAnswers.events c.tBit)

/-- The block steps of a whole read from WAKE_LOW to IDLE. -/
def readSteps (k : Nat) (bits : List BitAnswers) : Nat := k + 8 + (bits.map BitAnswers.steps).sum

/-- The stimulus lines of spec/95_test_vectors.md section 1. -/
inductive Sensor where
  /-- `SENSOR ack0=a ack1=b frame=F k=K`. -/
  | canonical (ack0 ack1 : Bool) (frame : FrameWord) (k : Nat)
  /-- `SENSOR none`. -/
  | silent
  /-- `SENSOR stop=n level=L frame=F`. -/
  | stopped (n : Nat) (level : Bool) (frame : FrameWord)
  deriving DecidableEq, Repr

/-- The canonical answers of a frame's bits. -/
def canonicalBits (frame : FrameWord) (k : Nat) : List BitAnswers :=
  (wireBits frame).map fun b => ⟨k, b, k⟩

/-- The first answers of a sensor; `more` is how many answers of an endless stretch are listed. -/
def Sensor.answers (more : Nat) : Sensor → List Bool
  | .canonical true _ _ _ => [true]
  | .canonical false false _ _ => [false, false]
  | .canonical false true frame k => readSamples k (canonicalBits frame k)
  | .silent => List.replicate more true
  | .stopped n level frame => readSamples 1 ((canonicalBits frame 1).take n) ++ List.replicate more level

end Sys2Proof.Machine
end

