-- ==== Sys2Proof/Machine/Runs.lean ====
section
/-! DEFINITION. Runs of the machine: several steps, the step with its marks kept in the state (spec/00_scope.md rule R11,
spec/60_exceptions.md rule R225), the observation of a read (spec/20_memory.md rule R65), and the state trace of rule R81. -/

namespace Sys2Proof.Machine

/-- `n` steps, stopping at the first fault or refusal. -/
def runSteps : Nat → State → Host.Outcome State Fault Refusal
  | 0, s => .next s
  | n + 1, s =>
    match step s with
    | .next t => runSteps n t
    | .fault r => .fault r
    | .refused r => .refused r

/-- The state after a step with a fault or a refused configuration kept as a mark (R11, R225). -/
def markedStep (s : State) : State :=
  match step s with
  | .next t => t
  | .fault r => { s with faultMark := some r }
  | .refused _ => refuse .illegalConfiguration s

/-- `Done` ends the read's events. -/
def isDone : Event → Bool
  | .done _ _ _ => true
  | .cmd _ | .mode _ | .delay _ | .sample _ | .elapsed _ => false

/-- One event more of the scan for the last read: its events so far, and whether it is still going on. -/
def scanRead (acc : List Event × Bool) (e : Event) : List Event × Bool :=
  if e = .cmd .read then ([e], true)
  else if acc.2 then (acc.1 ++ [e], !isDone e)
  else acc

/-- The last read of a history: its events from `Cmd(READ)` to `Done`, and whether it has not ended (R65). -/
def lastRead (h : List Event) : List Event × Bool := h.foldl scanRead ([], false)

/-- The observation of the last read (R65): its events, the results, and whether it has ended. -/
structure Observation where
  events : List Event
  results : PortWords
  hasEnded : Bool
  deriving DecidableEq, Repr

/-- What is observed of the last read in a state. R65 speaks of one read, its events up to `Done` and the values after it.
The model's choices beside it (log entry 23, DESIGN CHOICE): with no READ in the history the events are empty and
`hasEnded` is true; for a read with no `Done`, going on or hanging, the events are those so far; and `results` is what
`rh`, `temp` and `cause` hold now, whatever their written tags. -/
def observe (s : State) : Observation where
  events := (lastRead s.hist).1
  results := ports s
  hasEnded := !(lastRead s.hist).2

/-- The delays requested in a history, in µs (R260). -/
def requestedDelay : List Event → Nat
  | [] => 0
  | .delay n :: es => n + requestedDelay es
  | .cmd _ :: es => requestedDelay es
  | .mode _ :: es => requestedDelay es
  | .sample _ :: es => requestedDelay es
  | .elapsed _ :: es => requestedDelay es
  | .done _ _ _ :: es => requestedDelay es

/-- The line mode after some events, from the mode before them: what the last `Mode` event set (R25). -/
def modeAfter (m : LineState) : List Event → LineState
  | [] => m
  | .mode n :: es => modeAfter n es
  | .cmd _ :: es => modeAfter m es
  | .delay _ :: es => modeAfter m es
  | .sample _ :: es => modeAfter m es
  | .elapsed _ :: es => modeAfter m es
  | .done _ _ _ :: es => modeAfter m es

/-- The code of the primitive that emitted an event (R74); a `Cmd` or `Done` event comes from none. -/
def Event.primitiveCode : Event → Option (BitVec 3)
  | .mode .drivingLow => some 0b000#3
  | .mode .drivingHigh => some 0b001#3
  | .mode .listening => some 0b010#3
  | .sample _ => some 0b011#3
  | .mode .idle => some 0b100#3
  | .delay _ => some 0b101#3
  | .elapsed _ => some 0b110#3
  | .cmd _ => none
  | .done _ _ _ => none

/-- The states whose rules the block runs in the first `n` steps (R81). A host's move adds none, and neither does IDLE,
where the block takes no step of its own (R121, R201). -/
def stateTrace : Nat → State → List FsmWord
  | 0, _ => []
  | n + 1, s =>
    match step s with
    | .next t =>
      if busy s = true ∧ (fetch s).1 = .word (.ustate s.fsm) then s.fsm :: stateTrace n t else stateTrace n t
    | .fault _ => []
    | .refused _ => []

/-- A state's mnemonic; a reserved code, which no trace holds, has a name of the model's own (log entry 18). -/
def stateName (f : FsmWord) : String :=
  match decodeState f with
  | some i => i.mnemonic
  | none => "RESERVED"

/-- One state more at the front of a trace with its repetitions counted. -/
def countRepeat (f : FsmWord) : List (FsmWord × Nat) → List (FsmWord × Nat)
  | [] => [(f, 1)]
  | (g, n) :: rest => if f = g then (g, n + 1) :: rest else (f, 1) :: (g, n) :: rest

/-- A trace as the spec writes it: mnemonics, with `xN` for N consecutive steps of one state (R81). -/
def showTrace (fs : List FsmWord) : List String :=
  (fs.foldr countRepeat []).map fun p =>
    if p.2 = 1 then stateName p.1 else stateName p.1 ++ " x" ++ toString p.2

end Sys2Proof.Machine
end

