-- ==== Sys2Proof/Safety.lean ====
section
/-! DEFINITION. What counts as a safe run: the marks are clear (spec/60_exceptions.md rule R225), the state satisfies the
invariants of spec/10_state.md rule R33 and the rules derived from them, and, for claims that a read ends, executions with
their host, the block's weak fairness (spec/44_host_commands.md rule R201) and the clock's fairness law
(spec/40_line_clock.md rule R101). -/

namespace Sys2Proof.Machine

/-- No refusal and no fault recorded: the premise R225 gives to every claim about a run. -/
def Unmarked (s : State) : Prop := s.refusalMark = [] ∧ s.faultMark = none

/-- No bare primitive is on the agenda: no agent of the spec issues one (log entry 8). -/
def PrimitiveFree (s : State) : Prop := ∀ w n, Turn.primitive w n ∉ s.agenda

/-- The results of the last read are final: the read has reached FINALIZE, or has ended. -/
def ResultsFinal (s : State) : Prop :=
  s.fsm = Fsm.finalize ∨ (s.fsm = Fsm.idle ∧ s.causeWritten = true)

/-- The invariants of the registers (R33 and, where named, the rules beside it). -/
structure StateInvariant (s : State) : Prop where
  /-- Only codes 0 to 12 are reachable (R21, R79). -/
  legalCode : s.fsm.toNat ≤ 12
  /-- (a) -/
  boundInRead : s.fsm ≠ Fsm.idle → s.bound = true
  /-- (b), the wake pulse. -/
  wakeDrivesLow : s.fsm = Fsm.wakeLow ∨ s.fsm = Fsm.releaseHigh → s.mode = .drivingLow
  /-- (b), from AWAIT_ACK0 to FINALIZE. -/
  listens : 3 ≤ s.fsm.toNat → s.mode = .listening
  /-- (b), the resting line. -/
  restsIdle : s.fsm = Fsm.idle → s.bound = true → s.mode = .idle
  /-- (c) -/
  riseCount : s.fsm = Fsm.bitWaitRise ∨ s.fsm = Fsm.bitSample → s.cnt.toNat < 40
  /-- (c) -/
  fallCount : s.fsm = Fsm.bitWaitFall → 1 ≤ s.cnt.toNat ∧ s.cnt.toNat ≤ 40
  /-- (c) -/
  decodeCount : s.fsm = Fsm.decode → s.cnt.toNat = 40
  /-- R24: after a READ the count is at most 40. -/
  countBound : s.causeWritten = true → s.cnt.toNat ≤ 40
  /-- (d) -/
  frameBound : s.causeWritten = true → s.sr.toNat < 2 ^ s.cnt.toNat
  /-- (e) -/
  handshakeClear : 1 ≤ s.fsm.toNat ∧ s.fsm.toNat ≤ 6 → s.sr = 0#40 ∧ s.cnt = 0#6
  /-- R27: the tag is true from the first READ on. -/
  readTagged : s.fsm ≠ Fsm.idle → s.causeWritten = true
  /-- R79: no reserved cause is written. -/
  causeLegal : s.causeWritten = true → s.cause.toNat ≤ 4
  /-- R204, R220: `cause` is OK until a failure is raised. -/
  causeClear : 1 ≤ s.fsm.toNat ∧ s.fsm.toNat ≤ 10 → s.cause = Cause.ok
  /-- R220: FAILED is entered with a failure code. -/
  causeFailed : s.fsm = Fsm.failed → s.cause ≠ Cause.ok
  /-- R75, R223: TRANSMISSION_HANG exists only under bounded waits. -/
  hangOnlyBounded : s.causeWritten = true → s.cause = Cause.transmissionHang →
    s.cfg.boundAckEnd ≠ none ∨ s.cfg.boundRise ≠ none ∨ s.cfg.boundFall ≠ none
  /-- R75, R224: CHECKSUM_MISMATCH exists only under `VERIFY_CHECKSUM`. -/
  mismatchOnlyVerified : s.causeWritten = true → s.cause = Cause.checksumMismatch →
    s.cfg.verifyChecksum = true ∧ checksumOk s.sr = false
  /-- R179: after a handshake failure the accumulators are zero. -/
  handshakeFailure : s.causeWritten = true →
    s.cause = Cause.handshakeNoResponse ∨ s.cause = Cause.handshakeAckMissing → s.sr = 0#40
  /-- R34: `rh` and `temp` are written together. -/
  tagsTogether : s.rhWritten = s.tempWritten
  /-- R29: when the results are final they are written. -/
  finalWritten : ResultsFinal s → s.rhWritten = true
  /-- R179: a failed read's Reading is the sentinel. -/
  sentinel : ResultsFinal s → s.cause ≠ Cause.ok → s.rh = 0#16 ∧ s.temp = 0#16
  /-- R176: a good read's results are the decoded frame of 40 bits. -/
  decoded : ResultsFinal s → s.cause = Cause.ok →
    s.cnt.toNat = 40 ∧ s.rh = humidityField s.sr ∧ s.temp = temperatureWord (temperatureField s.sr) ∧
      (s.cfg.verifyChecksum = true → checksumOk s.sr = true)
  primitiveFree : PrimitiveFree s

/-- The three busy-wait states (R126, R151, R153). -/
def isWait (f : FsmWord) : Bool :=
  decide (f = Fsm.awaitAckEnd) || decide (f = Fsm.bitWaitRise) || decide (f = Fsm.bitWaitFall)

/-- The line level that keeps a wait polling (R126, R151, R153). -/
def stayLevel (f : FsmWord) : Bool := decide (f ≠ Fsm.bitWaitRise)

/-- The bound of a wait, if it is bounded (R126, R151, R153). -/
def waitBound (c : Config) (f : FsmWord) : Option Nat :=
  if f = Fsm.awaitAckEnd then c.boundAckEnd
  else if f = Fsm.bitWaitRise then c.boundRise
  else if f = Fsm.bitWaitFall then c.boundFall
  else none

/-- The events a step appended. -/
def newEvents (s t : State) : List Event := t.hist.drop s.hist.length

/-- An endless run of the machine with a host that, before each step, may decide on any further turns (R201; log entry
5). From an empty agenda the host so moves, or leaves the move to the block, at any step, endlessly often. -/
structure Execution (host : Nat → List Turn) (σ : Nat → State) : Prop where
  /-- The host issues commands and port reads, no bare primitive (log entry 8). -/
  hostMoves : ∀ n w k, Turn.primitive w k ∉ host n
  steps : ∀ n, step (schedule (host n) (σ n)) = .next (σ (n + 1))

/-- The next move is the block's own. -/
def BlockMoves (s : State) : Prop := (fetch s).1 = .word (.ustate s.fsm)

/-- Weak fairness of the block (R201): when a read never ends, the block moves infinitely often. -/
def BlockFair (host : Nat → List Turn) (σ : Nat → State) : Prop :=
  ∀ n, (∀ m, n ≤ m → busy (σ m) = true) → ∀ k, ∃ m, k ≤ m ∧ BlockMoves (schedule (host m) (σ m))

/-- Every wait is bounded (D15). -/
def AllBounded (c : Config) : Prop := c.boundAckEnd ≠ none ∧ c.boundRise ≠ none ∧ c.boundFall ≠ none

/-- The clock's fairness law (R101): when an endless stay in one wait state asks the clock again and again, some answer
is true. -/
def ClockFair (σ : Nat → State) : Prop :=
  ∀ n f, isWait f = true → (∀ m, n ≤ m → (σ m).fsm = f) →
    (∀ k, ∃ m, k ≤ m ∧ ∃ a, Event.elapsed a ∈ newEvents (σ m) (σ (m + 1))) →
    ∃ m, n ≤ m ∧ Event.elapsed true ∈ newEvents (σ m) (σ (m + 1))

end Sys2Proof.Machine
end

