-- ==== Sys2Proof/WellFormed.lean ====
section
/-! DEFINITION. Which operands an operation of a given configuration can carry: a `Delay` has one of the five time
constants (R100), a release pulse lasts `T_REL`, from 20 to 40 µs (R104), and a timeout query carries the bound of a
bounded wait (R101). -/

namespace Sys2Proof

/-- The bounds in use: those of the waits whose parameter is `some b` (R101). -/
def Config.boundsInUse (c : Config) : List Nat :=
  c.boundAckEnd.toList ++ c.boundRise.toList ++ c.boundFall.toList

/-- The operand of `i` is one the block of configuration `c` can give it. -/
def wellFormed (c : Config) : Instr → Bool
  | .driveHighRelease t => decide (t = c.tRel) && decide (20 ≤ t) && decide (t ≤ 40)
  | .delay n => decide (n ∈ c.delays)
  | .elapsed b => decide (b ∈ c.boundsInUse) && decide (1 ≤ b)
  | .nop | .init | .read => true
  | .idle | .wakeLow | .releaseHigh | .awaitAck0 | .awaitAck1 | .awaitAckEnd | .ready => true
  | .bitWaitRise | .bitSample | .bitWaitFall | .decode | .failed | .finalize => true
  | .driveLow | .release | .sample | .idleHigh => true

end Sys2Proof
end

