-- ==== Sys2Proof/Certificates/Slice0/Obligations.lean ====
section
/-! DEFINITION. The statements about the machine. A result statement gives the whole next state as one record update, so it
says the result, the frame (every field it does not name is unchanged) and that the operation completes. -/

open Sys2Proof Sys2Proof.Machine

/-! ### Encodings -/

/-- 30_encoding.md R70 to R74: the decoder and the encoder are inverse to each other, on every operation with every
operand and on every word. -/
def Obligations.DecodeInvertsEncode : Prop :=
  (∀ i, decode (encode i) = some i) ∧ (∀ w i, decode w = some i → encode i = w)

/-- 30_encoding.md R70 to R74: the bits the table gives a row, with the row's width, decode to that row's operation, and
the very next step of a machine where they are placed runs it. That a format's width names it, that a row's operand is
0 and how a word is placed are the model's (log entries 9, 12, 13). So is that a primitive placed with operand 0 runs
(log entry 22). -/
def Obligations.PlacedTableWordRunsItsRow : Prop :=
  ∀ i, ∃ j, decodeTableWord i.format.width (encode i).code = some j ∧ j.mnemonic = i.mnemonic ∧
    ∀ s, standingStop s = none →
      step (s.withFetchWord i.format.width (encode i).code) =
        exec j (match encode i with
          | .ustate f => { s with fsm := f }
          | _ => s)

/-- 30_encoding.md R71, R72, R74: some words written out from the tables. -/
def Obligations.WrittenWordsDecode : Prop :=
  decode (.cmd 0b00#2) = some .nop ∧ decode (.cmd 0b01#2) = some .init ∧ decode (.cmd 0b10#2) = some .read ∧
  decode (.ustate 0b0011#4) = some .awaitAck0 ∧ decode (.ustate 0b1000#4) = some .bitSample ∧
  decode (.ustate 0b1100#4) = some .finalize ∧ decode (.prim 0b001#3 30) = some (.driveHighRelease 30) ∧
  decode (.prim 0b101#3 80) = some (.delay 80)

/-- 30_encoding.md R79, R80: which words are reserved, and that a reserved code found in `fsm` or in a written `cause`
faults every step, whichever agent would move (log entry 4). -/
def Obligations.ReservedCodesSpellNothing : Prop :=
  (∀ w, decodeCommand w = none ↔ w = 0b11#2) ∧
  (∀ w, decodeState w = none ↔ 13 ≤ w.toNat) ∧
  (∀ n, decodePrimitive 0b111#3 n = none) ∧
  (∀ s, s.faultMark = none → s.cfg.legal = true → 13 ≤ s.fsm.toNat → step s = .fault .illegalState) ∧
  (∀ s, s.faultMark = none → s.cfg.legal = true → s.fsm.toNat ≤ 12 → s.causeWritten = true → 5 ≤ s.cause.toNat →
    step s = .fault .reservedCause)

/-- 30_encoding.md R73, R80: the four line modes, their codes and what the pad does in each. -/
def Obligations.LineModesSetThePad : Prop :=
  (LineState.code .idle = 0b00#2 ∧ lineOe .idle = true ∧ lineOut .idle = true) ∧
  (LineState.code .drivingLow = 0b01#2 ∧ lineOe .drivingLow = true ∧ lineOut .drivingLow = false) ∧
  (LineState.code .drivingHigh = 0b10#2 ∧ lineOe .drivingHigh = true ∧ lineOut .drivingHigh = true) ∧
  (LineState.code .listening = 0b11#2 ∧ lineOe .listening = false ∧ padDrive .listening = none) ∧
  (∀ w, (LineState.ofCode w).code = w) ∧ (∀ m, LineState.ofCode m.code = m)

/-! ### The step -/

/-- 00_scope.md R9: when nothing stops the machine, a step runs the operation that the fetched word decodes to, on the
state with that turn taken. -/
def Obligations.StepRunsTheDecodedWord : Prop :=
  ∀ s w i, standingStop s = none → (fetch s).1 = .word w → decode w = some i → step s = exec i (fetch s).2

/-- 44_host_commands.md R201: who moves. The host's turns are taken in order; otherwise the block runs the rule of its
current state, and in IDLE it waits. A waiting host stays until `busy = 0` (30_encoding.md R82). With no turn listed
the host may move next, whatever the state. The list of turns and its extension by the host are the model's own (log
entries 5, 6). -/
def Obligations.OneAgentMovesAtEachStep : Prop :=
  ∀ s rest, standingStop s = none →
    (s.agenda = [] → fetch s = (.word (.ustate s.fsm), s)) ∧
    (s.agenda = [] → s.fsm = Fsm.idle → step s = .next s) ∧
    (s.agenda = .block :: rest → fetch s = (.word (.ustate s.fsm), { s with agenda := rest })) ∧
    (∀ w, s.agenda = .command w :: rest → fetch s = (.word (.cmd w), { s with agenda := rest })) ∧
    (s.agenda = .get :: rest → fetch s = (.get, { s with agenda := rest })) ∧
    (s.agenda = .waitDone :: rest → s.fsm ≠ Fsm.idle → fetch s = (.word (.ustate s.fsm), s)) ∧
    (s.agenda = .waitDone :: rest → s.fsm = Fsm.idle → step s = .next { s with agenda := rest }) ∧
    (∀ w, s.agenda = [] → fetch (schedule [.command w] s) = (.word (.cmd w), s)) ∧
    (s.agenda = [] → fetch (schedule [.get] s) = (.get, s))

/-- 00_scope.md R8, 40_line_clock.md R109, 60_exceptions.md R234: the legal configurations, that two legal instances are
legal together exactly when their lines and their clocks differ, and that an illegal configuration is refused at every
step. The model's own are: that 0 is legal for `T_ACK0`, `T_ACK1` and `T_BIT` (log entry 24), that sharing is a check
on a list of configurations and covers the clock (log entry 17), and that the refusal is the step's outcome (log entry
3). -/
def Obligations.IllegalConfigurationIsRefused : Prop :=
  (∀ c : Config, c.legal = true ↔
    10000 ≤ c.tWake ∧ 20 ≤ c.tRel ∧ c.tRel ≤ 40 ∧
      c.boundAckEnd ≠ some 0 ∧ c.boundRise ≠ some 0 ∧ c.boundFall ≠ some 0) ∧
  (∀ c d : Config, Config.legalSystem [c, d] = true ↔
    c.legal = true ∧ d.legal = true ∧ c.lineId ≠ d.lineId ∧ c.clockId ≠ d.clockId) ∧
  (∀ s : State, s.faultMark = none → s.cfg.legal = false → step s = .refused .illegalConfiguration)

/-- 10_state.md R34: what reset leaves: the stated values, and for `mode`, `sr` and `cnt` any draw (the draw of
`State.reset` is log entry 1). -/
def Obligations.ResetLeavesTheStatedValues : Prop :=
  (∀ c d, (State.resetWith c d).fsm = 0b0000#4 ∧ (State.resetWith c d).bound = false ∧
    (State.resetWith c d).mode = d.mode ∧ (State.resetWith c d).sr = d.sr ∧ (State.resetWith c d).cnt = d.cnt ∧
    (State.resetWith c d).rhWritten = false ∧ (State.resetWith c d).tempWritten = false ∧
    (State.resetWith c d).causeWritten = false ∧ (State.resetWith c d).hist = [] ∧
    (State.resetWith c d).refusalMark = [] ∧ (State.resetWith c d).faultMark = none) ∧
  (∃ d, State.reset = State.resetWith Config.reference d)

/-! ### Host commands -/

/-- 44_host_commands.md R202. -/
def Obligations.NopChangesNothing : Prop :=
  encode .nop = .cmd 0b00#2 ∧ ∀ s, exec .nop s = .next s

/-- 44_host_commands.md R203: while busy INIT is refused; else it binds the block and sets the line idle. The mark keeps
each reason once (log entry 3). -/
def Obligations.InitBindsAndRestsTheLine : Prop :=
  encode .init = .cmd 0b01#2 ∧ ∀ s,
    (s.fsm ≠ Fsm.idle →
      exec .init s = .next { s with refusalMark := addReason .commandWhileBusy s.refusalMark }) ∧
    (s.fsm = Fsm.idle →
      exec .init s = .next { s with
        bound := true
        mode := .idle
        hist := s.hist ++ [.cmd .init, .mode .idle] })

/-- 44_host_commands.md R204: while busy or unbound READ is refused; else it clears the datapath and starts the wake. The
mark keeps each reason once (log entry 3). -/
def Obligations.ReadStartsTheWake : Prop :=
  encode .read = .cmd 0b10#2 ∧ ∀ s,
    (s.fsm ≠ Fsm.idle →
      exec .read s = .next { s with refusalMark := addReason .commandWhileBusy s.refusalMark }) ∧
    (s.fsm = Fsm.idle → s.bound = false →
      exec .read s = .next { s with refusalMark := addReason .readBeforeInit s.refusalMark }) ∧
    (s.fsm = Fsm.idle → s.bound = true →
      exec .read s = .next { s with
        fsm := Fsm.wakeLow
        sr := 0#40
        cnt := 0#6
        cause := 0b000#3
        causeWritten := true
        mode := .drivingLow
        hist := s.hist ++ [.cmd .read, .mode .drivingLow] })

/-- 44_host_commands.md R205, for a reserved word presented by the host's next turn (log entries 3, 5). -/
def Obligations.ReservedCommandIsRefused : Prop :=
  ∀ s rest, standingStop s = none → s.agenda = .command 0b11#2 :: rest →
    step s = .next { s with
      agenda := rest
      refusalMark := addReason .reservedCommand s.refusalMark }

/-- 44_host_commands.md R207: GET while busy is refused, on an unwritten result a fault, else the port words, which stand
for the Reading. Where the host keeps what GET returned is the model's own (log entries 3, 5, 11). -/
def Obligations.GetReturnsThePorts : Prop :=
  ∀ s rest, standingStop s = none → s.agenda = .get :: rest →
    (s.fsm ≠ Fsm.idle → step s = .next { s with
      agenda := rest
      refusalMark := addReason .readWhileBusy s.refusalMark }) ∧
    (s.fsm = Fsm.idle → ¬(s.rhWritten = true ∧ s.tempWritten = true ∧ s.causeWritten = true) →
      step s = .fault .readUnwritten) ∧
    (s.fsm = Fsm.idle → s.rhWritten = true ∧ s.tempWritten = true ∧ s.causeWritten = true →
      step s = .next { s with
        agenda := rest
        hostGot := some ⟨s.rh, s.temp, s.cause⟩ }) ∧
    readingOf ⟨s.rh, s.temp, s.cause⟩ = ⟨s16 s.rh, s16 s.temp⟩

/-- 44_host_commands.md R209: INIT twice leaves the registers of INIT once. -/
def Obligations.InitIsIdempotent : Prop :=
  ∀ s, busy s = false → ∃ t u, exec .init s = .next t ∧ exec .init t = .next u ∧
    t = { s with bound := true, mode := .idle, hist := t.hist } ∧
    u = { t with hist := t.hist ++ [.cmd .init, .mode .idle] }

/-- 44_host_commands.md R206, R210: during a read no command word and no GET changes anything but the refusal mark, and
NOP not even that (log entries 3, 5). -/
def Obligations.NoHostMoveDisturbsARead : Prop :=
  ∀ s turn rest, standingStop s = none → s.fsm ≠ Fsm.idle → s.agenda = turn :: rest →
    (turn = .get ∨ ∃ w, turn = .command w) →
    ∃ mark, step s = .next { s with agenda := rest, refusalMark := mark } ∧
      (turn = .command 0b00#2 → mark = s.refusalMark) ∧
      (turn = .command 0b01#2 ∨ turn = .command 0b10#2 → mark = addReason .commandWhileBusy s.refusalMark) ∧
      (turn = .command 0b11#2 → mark = addReason .reservedCommand s.refusalMark) ∧
      (turn = .get → mark = addReason .readWhileBusy s.refusalMark)

/-! ### Line and Clock primitives -/

/-- 40_line_clock.md R103, R105, R107, R108: each mode primitive sets the whole line mode, whatever it was. An operand 0
beside the code is the model's (log entry 12). -/
def Obligations.ModePrimitivesSetTheMode : Prop :=
  encode .driveLow = .prim 0b000#3 0 ∧ encode .release = .prim 0b010#3 0 ∧ encode .idleHigh = .prim 0b100#3 0 ∧
  ∀ s,
    exec .driveLow s = .next { s with mode := .drivingLow, hist := s.hist ++ [.mode .drivingLow] } ∧
    exec .release s = .next { s with mode := .listening, hist := s.hist ++ [.mode .listening] } ∧
    exec .idleHigh s = .next { s with mode := .idle, hist := s.hist ++ [.mode .idle] }

/-- 40_line_clock.md R104: high for `t` µs, then released. The operand beside the code is the model's (log entry 12). That
`exec` runs an operand outside the range the rule gives it is the model's choice (log entry 22). -/
def Obligations.ReleasePulseDrivesThenListens : Prop :=
  ∀ t s, encode (.driveHighRelease t) = .prim 0b001#3 t ∧
    exec (.driveHighRelease t) s = .next { s with
      mode := .listening
      hist := s.hist ++ [.mode .drivingHigh, .delay t, .mode .listening] }

/-- 40_line_clock.md R100: a delay leaves its event alone. The operand beside the code is the model's (log entry 12). That
`exec` runs an operand outside the range the rule gives it is the model's choice (log entry 22). -/
def Obligations.DelayRecordsItsDuration : Prop :=
  ∀ n s, encode (.delay n) = .prim 0b101#3 n ∧
    exec (.delay n) s = .next { s with hist := s.hist ++ [.delay n] }

/-- 40_line_clock.md R106: a sample records the bit the line oracle answers, a listed one or its free answer. The answer
list and the draw counter are the model's own (log entries 7, 12). From a state that is not listening the answer is
the model's choice too (log entry 14). -/
def Obligations.SampleRecordsTheLineAnswer : Prop :=
  encode .sample = .prim 0b011#3 0 ∧
  (∀ s v rest, s.lineIn = v :: rest → exec .sample s = .next { s with
    lineIn := rest
    draws := s.draws + 1
    hist := s.hist ++ [.sample v] }) ∧
  (∀ s, s.lineIn = [] → exec .sample s = .next { s with
    draws := s.draws + 1
    hist := s.hist ++ [.sample (Config.freeLineLevel s.draws s.hist)] })

/-- 40_line_clock.md R101: a timeout query records the clock's answer, a listed one or its free answer (log entries 7,
12). That `exec` runs an operand outside the range the rule gives it is the model's choice (log entry 22). -/
def Obligations.TimeoutQueryRecordsTheClockAnswer : Prop :=
  (∀ b, encode (.elapsed b) = .prim 0b110#3 b) ∧
  (∀ b s a rest, s.clockIn = a :: rest → exec (.elapsed b) s = .next { s with
    clockIn := rest
    draws := s.draws + 1
    hist := s.hist ++ [.elapsed a] }) ∧
  (∀ b s, s.clockIn = [] → exec (.elapsed b) s = .next { s with
    draws := s.draws + 1
    hist := s.hist ++ [.elapsed (Config.freeTimeout s.draws s.hist b)] })

/-- 40_line_clock.md R102: modular subtraction gives the true elapsed ticks as long as they fit the counter. -/
def Obligations.ClockSubtractionSurvivesWrap : Prop :=
  ∀ width start ticks, ticks < 2 ^ width →
    elapsedTicks width ((start + ticks) % 2 ^ width) (start % 2 ^ width) = ticks

/-! ### Handshake -/

/-- 41_handshake.md R121: the block takes no step of its own in IDLE, modelled as a step that changes nothing (log entry
5). -/
def Obligations.IdleTakesNoStep : Prop :=
  encode .idle = .ustate 0b0000#4 ∧ ∀ s, exec .idle s = .next s

/-- 41_handshake.md R122. -/
def Obligations.WakeLowHoldsForTheWakeTime : Prop :=
  encode .wakeLow = .ustate 0b0001#4 ∧ ∀ s,
    exec .wakeLow s = .next { s with
      fsm := Fsm.releaseHigh
      hist := s.hist ++ [.delay s.cfg.tWake] }

/-- 41_handshake.md R123. -/
def Obligations.ReleaseHighPulsesAndListens : Prop :=
  encode .releaseHigh = .ustate 0b0010#4 ∧ ∀ s,
    exec .releaseHigh s = .next { s with
      fsm := Fsm.awaitAck0
      mode := .listening
      hist := s.hist ++ [.mode .drivingHigh, .delay s.cfg.tRel, .mode .listening] }

/-- 41_handshake.md R124: `v` is the line's answer after the delay. The answer list and the draw counter are the model's
own (log entry 7). That the write sets the tag of `cause` also where it was false is the model's (R27, log entry 21),
and so is a sample while not listening (log entry 14). -/
def Obligations.AwaitAck0ChecksForLow : Prop :=
  encode .awaitAck0 = .ustate 0b0011#4 ∧ ∀ s v,
    lineLevel { s with hist := s.hist ++ [.delay s.cfg.tAck0] } = v →
    (v = true → exec .awaitAck0 s = .next { s with
      fsm := Fsm.failed
      cause := 0b001#3
      causeWritten := true
      lineIn := s.lineIn.tail
      draws := s.draws + 1
      hist := s.hist ++ [.delay s.cfg.tAck0, .sample true] }) ∧
    (v = false → exec .awaitAck0 s = .next { s with
      fsm := Fsm.awaitAck1
      lineIn := s.lineIn.tail
      draws := s.draws + 1
      hist := s.hist ++ [.delay s.cfg.tAck0, .sample false] })

/-- 41_handshake.md R125: `v` is the line's answer after the delay. The answer list and the draw counter are the model's
own (log entry 7). That the write sets the tag of `cause` also where it was false is the model's (R27, log entry 21),
and so is a sample while not listening (log entry 14). -/
def Obligations.AwaitAck1ChecksForHigh : Prop :=
  encode .awaitAck1 = .ustate 0b0100#4 ∧ ∀ s v,
    lineLevel { s with hist := s.hist ++ [.delay s.cfg.tAck1] } = v →
    (v = false → exec .awaitAck1 s = .next { s with
      fsm := Fsm.failed
      cause := 0b010#3
      causeWritten := true
      lineIn := s.lineIn.tail
      draws := s.draws + 1
      hist := s.hist ++ [.delay s.cfg.tAck1, .sample false] }) ∧
    (v = true → exec .awaitAck1 s = .next { s with
      fsm := Fsm.awaitAckEnd
      lineIn := s.lineIn.tail
      draws := s.draws + 1
      hist := s.hist ++ [.delay s.cfg.tAck1, .sample true] })

namespace Sys2Proof.Machine

/-- One poll of a busy-wait, the shape R126, R151 and R153 share: `i` polls in state `again`, leaves for `exit` on the
level `exitLevel`, and is bounded by `bound`. The answer lists and the draw counter are the model's own (log entry 7).
That the write sets the tag of `cause` also where it was false is the model's (R27, log entry 21), and so is a sample
while not listening (log entry 14). -/
def PollsOnce (i : Instr) (exitLevel : Bool) (bound : Option Nat) (exit again : FsmWord) (s : State) : Prop :=
  (lineLevel s = exitLevel → exec i s = .next { s with
    fsm := exit
    lineIn := s.lineIn.tail
    draws := s.draws + 1
    hist := s.hist ++ [.sample exitLevel] }) ∧
  (lineLevel s = !exitLevel → bound = none → exec i s = .next { s with
    fsm := again
    lineIn := s.lineIn.tail
    draws := s.draws + 1
    hist := s.hist ++ [.sample !exitLevel] }) ∧
  (∀ b a, lineLevel s = !exitLevel → bound = some b → clockAnswer b (sampled s) = a →
    (a = true → exec i s = .next { s with
      fsm := Fsm.failed
      cause := 0b011#3
      causeWritten := true
      lineIn := s.lineIn.tail
      clockIn := s.clockIn.tail
      draws := s.draws + 2
      hist := s.hist ++ [.sample !exitLevel, .elapsed true] }) ∧
    (a = false → exec i s = .next { s with
      fsm := again
      lineIn := s.lineIn.tail
      clockIn := s.clockIn.tail
      draws := s.draws + 2
      hist := s.hist ++ [.sample !exitLevel, .elapsed false] }))

end Sys2Proof.Machine

/-- 41_handshake.md R126. The model's choices are named at `PollsOnce` (R27, log entries 7, 14, 21). -/
def Obligations.AwaitAckEndPollsForLow : Prop :=
  encode .awaitAckEnd = .ustate 0b0101#4 ∧ ∀ s,
    PollsOnce .awaitAckEnd false s.cfg.boundAckEnd Fsm.ready Fsm.awaitAckEnd s

/-- 41_handshake.md R127. -/
def Obligations.ReadyGoesToTheBits : Prop :=
  encode .ready = .ustate 0b0110#4 ∧ ∀ s, exec .ready s = .next { s with fsm := Fsm.bitWaitRise }

/-! ### Bit discriminator -/

/-- 42_bit_decoder.md R151. The model's choices are named at `PollsOnce` (R27, log entries 7, 14, 21). -/
def Obligations.BitWaitRisePollsForHigh : Prop :=
  encode .bitWaitRise = .ustate 0b0111#4 ∧ ∀ s,
    PollsOnce .bitWaitRise true s.cfg.boundRise Fsm.bitSample Fsm.bitWaitRise s

/-- 42_bit_decoder.md R152: `v`, the line's answer after the delay, is the bit. The answer list and the draw counter are
the model's own (log entry 7). So is the run of the rule outside the invariants, with `cnt` from 40 on, where `cnt +
1` is modulo 64 (log entry 19), and a sample while not listening (log entry 14). -/
def Obligations.BitSampleShiftsTheBitIn : Prop :=
  encode .bitSample = .ustate 0b1000#4 ∧ ∀ s v,
    lineLevel { s with hist := s.hist ++ [.delay s.cfg.tBit] } = v →
    exec .bitSample s = .next { s with
      fsm := if v = true then Fsm.bitWaitFall
        else if s.cnt + 1#6 = 40#6 then Fsm.decode else Fsm.bitWaitRise
      sr := shift40 s.sr v
      cnt := s.cnt + 1#6
      lineIn := s.lineIn.tail
      draws := s.draws + 1
      hist := s.hist ++ [.delay s.cfg.tBit, .sample v] }

/-- 42_bit_decoder.md R153. The model's choices are named at `PollsOnce` (R27, log entries 7, 14, 21). -/
def Obligations.BitWaitFallPollsForLow : Prop :=
  encode .bitWaitFall = .ustate 0b1001#4 ∧ ∀ s,
    PollsOnce .bitWaitFall false s.cfg.boundFall
      (if s.cnt = 40#6 then Fsm.decode else Fsm.bitWaitRise) Fsm.bitWaitFall s

/-- 60_exceptions.md R227: in each wait an exit level ends the wait even when the bound has been reached, and the clock is
not asked. A sample while not listening is the model's choice (log entry 14). -/
def Obligations.ExitLevelWinsOverTimeout : Prop :=
  ∀ s t f i, isWait f = true → decodeState f = some i → lineLevel s = !stayLevel f → exec i s = .next t →
    t.fsm ≠ Fsm.failed ∧ t.fsm ≠ f ∧ t.cause = s.cause ∧ t.clockIn = s.clockIn ∧
      ∀ a, Event.elapsed a ∉ newEvents s t

/-! ### Frame end -/

/-- 43_frame_assembler.md R176. That the mismatch sets the tag of `cause` also where it was false is the model's (R27, log
entry 21). -/
def Obligations.DecodeWritesTheReading : Prop :=
  encode .decode = .ustate 0b1010#4 ∧ ∀ s,
    (s.cfg.verifyChecksum = true → checksumOk s.sr = false → exec .decode s = .next { s with
      fsm := Fsm.failed
      cause := 0b100#3
      causeWritten := true }) ∧
    (s.cfg.verifyChecksum = false ∨ checksumOk s.sr = true → exec .decode s = .next { s with
      fsm := Fsm.finalize
      rh := humidityField s.sr
      rhWritten := true
      temp := u16 (signMagnitude (temperatureField s.sr))
      tempWritten := true })

/-- 43_frame_assembler.md R177. -/
def Obligations.FailedReportsTheSentinel : Prop :=
  encode .failed = .ustate 0b1011#4 ∧ ∀ s,
    exec .failed s = .next { s with
      fsm := Fsm.finalize
      rh := 0x0000#16
      rhWritten := true
      temp := 0x0000#16
      tempWritten := true }

/-- 43_frame_assembler.md R178. -/
def Obligations.FinalizeRestsTheLineAndPublishes : Prop :=
  encode .finalize = .ustate 0b1100#4 ∧ ∀ s,
    exec .finalize s = .next { s with
      fsm := Fsm.idle
      mode := .idle
      hist := s.hist ++ [.mode .idle, .done s.rh s.temp s.cause] }

/-! ### The datapath -/

/-- 43_frame_assembler.md R171: the shift as arithmetic, as a concatenation, and that within 39 bits it loses nothing. -/
def Obligations.ShiftEntersAtTheLowestBit : Prop :=
  ∀ (s : FrameWord) (v : Bool),
    (shift40 s v).toNat = (2 * s.toNat + v.toNat) % 2 ^ 40 ∧
    shift40 s v = s.extractLsb' 0 39 ++ BitVec.ofBool v ∧
    (s.toNat < 2 ^ 39 → (shift40 s v).toNat = 2 * s.toNat + v.toNat)

namespace Sys2Proof.Machine

/-- The source's accumulator of `n` bits, filled most significant bit first (R172). -/
def accumulate (n : Nat) (bits : List Bool) : BitVec n :=
  bits.foldl (fun acc b => (acc <<< 1) ||| BitVec.setWidth n (BitVec.ofBool b)) 0

end Sys2Proof.Machine

/-- 43_frame_assembler.md R172: after 40 shifts `sr` holds the bits, first sampled most significant, and its three slices
are the source's three accumulators. -/
def Obligations.FortyShiftsAssembleTheFrame : Prop :=
  ∀ bits : List Bool, bits.length = 40 →
    (shiftedFrame bits).toNat =
      ((List.range 40).map fun i => (bits.getD i false).toNat * 2 ^ (39 - i)).sum ∧
    humidityField (shiftedFrame bits) = accumulate 16 (bits.take 16) ∧
    temperatureField (shiftedFrame bits) = accumulate 16 ((bits.drop 16).take 16) ∧
    checksumField (shiftedFrame bits) = accumulate 8 (bits.drop 32)

/-- 43_frame_assembler.md R173: the sign-magnitude decoder, its range, negative zero, and that it is not two's complement. -/
def Obligations.SignMagnitudeDecodes : Prop :=
  (∀ t : ResultWord,
    (t.getLsbD 15 = true → signMagnitude t = -((t &&& 0x7FFF#16).toNat : Int)) ∧
    (t.getLsbD 15 = false → signMagnitude t = (t.toNat : Int)) ∧
    -32767 ≤ signMagnitude t ∧ signMagnitude t ≤ 32767 ∧
    s16 (u16 (signMagnitude t)) = signMagnitude t ∧ u16 (signMagnitude t) ≠ 0x8000#16) ∧
  u16 (signMagnitude 0x8000#16) = 0x0000#16 ∧ signMagnitude 0xFFFF#16 = -32767 ∧
  u16 (signMagnitude 0xFFFF#16) = 0x8001#16 ∧ signMagnitude 0xFF38#16 = -32568

/-- 43_frame_assembler.md R174, R181: the Reading of an accepted frame: the humidity bits read as int16, and the
temperature by its sign bit. -/
def Obligations.AcceptedReadingValues : Prop :=
  ∀ s, s.cfg.verifyChecksum = false ∨ checksumOk s.sr = true →
    ∃ u, exec .decode s = .next u ∧ u.rh = humidityField s.sr ∧
      ((humidityField s.sr).toNat ≤ 0x7FFF → s16 u.rh = (humidityField s.sr).toNat) ∧
      (0x8000 ≤ (humidityField s.sr).toNat → s16 u.rh = (humidityField s.sr).toNat - 65536) ∧
      ((temperatureField s.sr).getLsbD 15 = false →
        s16 u.temp = (temperatureField s.sr).toNat ∧ 0 ≤ s16 u.temp) ∧
      ((temperatureField s.sr).getLsbD 15 = true →
        s16 u.temp = -((temperatureField s.sr &&& 0x7FFF#16).toNat : Int))

/-- 43_frame_assembler.md R175: the checksum is the sum of the four data bytes mod 256, compared with the last byte; the
reference configuration accepts whatever it is. -/
def Obligations.ChecksumSumsTheDataBytes : Prop :=
  (∀ sr : FrameWord,
    checksum sr = (sr.toNat / 2 ^ 32 % 256 + sr.toNat / 2 ^ 24 % 256 + sr.toNat / 2 ^ 16 % 256 +
      sr.toNat / 2 ^ 8 % 256) % 256 ∧
    (checksumOk sr = true ↔ checksum sr = sr.toNat % 256)) ∧
  (∀ s : State, s.cfg.verifyChecksum = false →
    ∃ u, exec .decode s = .next u ∧ u.fsm = Fsm.finalize ∧ u.cause = s.cause ∧ u.sr = s.sr)

/-- 43_frame_assembler.md R180: decoding the fields of an encoded pair gives the pair back, for every int16 humidity and
every temperature but -32768. -/
def Obligations.EncodedPairDecodesBack : Prop :=
  ∀ (h t : Int) (c : BitVec 8), -32768 ≤ h → h ≤ 32767 → -32767 ≤ t → t ≤ 32767 →
    s16 (humidityField (frameOf h t c)) = h ∧
    s16 (u16 (signMagnitude (temperatureField (frameOf h t c)))) = t ∧
    checksumField (frameOf h t c) = c ∧
    shiftedFrame (wireBits (frameOf h t c)) = frameOf h t c

/-! ### The whole machine -/

/-- 10_state.md R33, R34: every reset state satisfies the invariants, whatever the draw (log entry 1). -/
def Obligations.ResetSatisfiesTheInvariants : Prop :=
  ∀ c d, StateInvariant (State.resetWith c d)

/-- 10_state.md R33 with the rules named at `StateInvariant`: every step keeps the invariants. That no bare primitive is
on the agenda is the model's (log entry 8). -/
def Obligations.StepKeepsTheInvariants : Prop :=
  ∀ s t, StateInvariant s → step s = .next t → StateInvariant t

/-- 30_encoding.md R79, 60_exceptions.md R225: from a state with the invariants, a legal configuration and no fault mark,
the only stop is the host's GET of an unwritten result. That a refused host move is a next state, and that no bare
primitive is on the agenda, are the model's (log entries 3, 8). -/
def Obligations.OnlyAnEarlyGetStops : Prop :=
  ∀ s, StateInvariant s → s.faultMark = none → s.cfg.legal = true →
    (∃ t, step s = .next t) ∨
    (step s = .fault .readUnwritten ∧ (fetch s).1 = .get ∧ s.fsm = Fsm.idle ∧ resultsWritten s = false)

/-- 60_exceptions.md R225, 00_scope.md R11: a fault or a refusal sets its mark, and no later step clears a mark (log
entries 3, 4). -/
def Obligations.MarksAreNeverCleared : Prop :=
  ∀ s,
    (∀ r, s.faultMark = some r → step s = .fault r ∧ markedStep s = s) ∧
    (∀ q, q ∈ s.refusalMark → q ∈ (markedStep s).refusalMark) ∧
    (∀ r, step s = .fault r → markedStep s = { s with faultMark := some r }) ∧
    (∀ r, step s = .refused r → RefusalReason.illegalConfiguration ∈ (markedStep s).refusalMark)

/-- 20_memory.md R55, R62, 10_state.md R25: a step only appends events, and the line mode after it is what the last
appended `Mode` event set, else the mode before. -/
def Obligations.ModeFollowsTheHistory : Prop :=
  ∀ s t, step s = .next t → ∃ events, t.hist = s.hist ++ events ∧ t.mode = modeAfter s.mode events

/-- 00_scope.md R7, 10_state.md R26 to R28: a step changes no parameter, unbinds nothing and clears no written tag. -/
def Obligations.ConfigurationBindingAndTagsPersist : Prop :=
  ∀ s t, step s = .next t →
    t.cfg = s.cfg ∧ (s.bound = true → t.bound = true) ∧ (s.rhWritten = true → t.rhWritten = true) ∧
    (s.tempWritten = true → t.tempWritten = true) ∧ (s.causeWritten = true → t.causeWritten = true)

/-- 10_state.md R20, with 40_line_clock.md R103 to R107 for the primitives: which operation writes which register. The
configuration in the state, the agenda, the host's latch, the form of the refusal mark and the bare primitives are the
model's (log entries 2, 3, 5, 8, 11). -/
def Obligations.EachRegisterHasItsWriters : Prop :=
  ∀ i s t, exec i s = .next t →
    (t.sr ≠ s.sr ∨ t.cnt ≠ s.cnt → i = .read ∨ i = .bitSample) ∧
    (t.rh ≠ s.rh ∨ t.temp ≠ s.temp → i = .decode ∨ i = .failed) ∧
    (t.cause ≠ s.cause → i = .read ∨ i = .awaitAck0 ∨ i = .awaitAck1 ∨ i = .awaitAckEnd ∨ i = .bitWaitRise ∨
      i = .bitWaitFall ∨ i = .decode) ∧
    (t.mode ≠ s.mode → i = .init ∨ i = .read ∨ i = .releaseHigh ∨ i = .finalize ∨ i.format = .prim) ∧
    (t.bound ≠ s.bound → i = .init) ∧
    (t.refusalMark ≠ s.refusalMark → i = .init ∨ i = .read) ∧
    (i.format = .prim → t.fsm = s.fsm) ∧
    t.cfg = s.cfg ∧ t.faultMark = s.faultMark ∧ t.agenda = s.agenda ∧ t.hostGot = s.hostGot

/-- 10_state.md R21: the state graph. A step leaves `fsm` as it is or follows one of the 22 edges, and the four optional
edges to FAILED, from the three waits and from DECODE, exist only under their options. -/
def Obligations.StepsFollowTheStateGraph : Prop :=
  ∀ s t, StateInvariant s → step s = .next t →
    (t.fsm = s.fsm ∨ (s.fsm, t.fsm) ∈
      [(Fsm.idle, Fsm.wakeLow), (Fsm.wakeLow, Fsm.releaseHigh), (Fsm.releaseHigh, Fsm.awaitAck0),
       (Fsm.awaitAck0, Fsm.awaitAck1), (Fsm.awaitAck0, Fsm.failed), (Fsm.awaitAck1, Fsm.awaitAckEnd),
       (Fsm.awaitAck1, Fsm.failed), (Fsm.awaitAckEnd, Fsm.ready), (Fsm.awaitAckEnd, Fsm.failed),
       (Fsm.ready, Fsm.bitWaitRise), (Fsm.bitWaitRise, Fsm.bitSample), (Fsm.bitWaitRise, Fsm.failed),
       (Fsm.bitSample, Fsm.bitWaitRise), (Fsm.bitSample, Fsm.bitWaitFall), (Fsm.bitSample, Fsm.decode),
       (Fsm.bitWaitFall, Fsm.bitWaitRise), (Fsm.bitWaitFall, Fsm.decode), (Fsm.bitWaitFall, Fsm.failed),
       (Fsm.decode, Fsm.finalize), (Fsm.decode, Fsm.failed), (Fsm.failed, Fsm.finalize),
       (Fsm.finalize, Fsm.idle)]) ∧
    (isWait s.fsm = true → t.fsm = Fsm.failed → waitBound s.cfg s.fsm ≠ none) ∧
    (s.fsm = Fsm.decode → t.fsm = Fsm.failed → s.cfg.verifyChecksum = true)

/-- 10_state.md R33 (b), 40_line_clock.md R106: a step that samples the line listens before and after. -/
def Obligations.SamplesOnlyWhileListening : Prop :=
  ∀ s t v, StateInvariant s → step s = .next t → Event.sample v ∈ newEvents s t → s.mode = .listening ∧ t.mode = .listening

/-- 60_exceptions.md R229, 10_state.md R29: `busy` rises only when READ is accepted and falls only in FINALIZE, with the
line idle and `Done` published. -/
def Obligations.ReadsBeginAndEndInOnePlace : Prop :=
  ∀ s t, StateInvariant s → step s = .next t →
    (busy s = false → busy t = true →
      (fetch s).1 = .word (.cmd 0b10#2) ∧ s.bound = true ∧ t.fsm = Fsm.wakeLow ∧
      newEvents s t = [.cmd .read, .mode .drivingLow]) ∧
    (busy s = true → busy t = false →
      s.fsm = Fsm.finalize ∧ t.mode = .idle ∧ newEvents s t = [.mode .idle, .done s.rh s.temp s.cause])

/-- 43_frame_assembler.md R176, R179: every published result is either the decoded frame of 40 bits, with cause OK, or the
sentinel, with a failure code. -/
def Obligations.DoneIsADecodedFrameOrTheSentinel : Prop :=
  ∀ s t r x c, StateInvariant s → step s = .next t → Event.done r x c ∈ newEvents s t →
    (c = 0b000#3 ∧ s.cnt = 40#6 ∧ r = humidityField s.sr ∧ s16 x = signMagnitude (temperatureField s.sr)) ∨
    (c ≠ 0b000#3 ∧ r = 0#16 ∧ x = 0#16)

/-! ### Runs -/

namespace Sys2Proof.Machine

/-- The state READ leaves, with no further host move: a legal machine at the start of WAKE_LOW. -/
def AtWake (s : State) : Prop :=
  s.fsm = Fsm.wakeLow ∧ s.agenda = [] ∧ s.faultMark = none ∧ s.cfg.legal = true ∧
    s.sr = 0#40 ∧ s.cnt = 0#6 ∧ s.cause = 0b000#3 ∧ s.causeWritten = true

end Sys2Proof.Machine

/-- 41_handshake.md R130, 70_reset_and_hazards.md R260: the two failed handshakes, run to IDLE in every configuration. -/
def Obligations.FailedHandshakesEndIdle : Prop :=
  ∀ s rest, AtWake s →
    (s.lineIn = true :: rest → runSteps 5 s = .next { s with
      fsm := Fsm.idle
      mode := .idle
      rh := 0#16
      rhWritten := true
      temp := 0#16
      tempWritten := true
      cause := 0b001#3
      lineIn := rest
      draws := s.draws + 1
      hist := s.hist ++ [.delay s.cfg.tWake, .mode .drivingHigh, .delay s.cfg.tRel, .mode .listening,
        .delay s.cfg.tAck0, .sample true, .mode .idle, .done 0#16 0#16 0b001#3] }) ∧
    (s.lineIn = false :: false :: rest → runSteps 6 s = .next { s with
      fsm := Fsm.idle
      mode := .idle
      rh := 0#16
      rhWritten := true
      temp := 0#16
      tempWritten := true
      cause := 0b010#3
      lineIn := rest
      draws := s.draws + 2
      hist := s.hist ++ [.delay s.cfg.tWake, .mode .drivingHigh, .delay s.cfg.tRel, .mode .listening,
        .delay s.cfg.tAck0, .sample false, .delay s.cfg.tAck1, .sample false,
        .mode .idle, .done 0#16 0#16 0b010#3] })

/-- 43_frame_assembler.md R170, R172, R176, R178, 42_bit_decoder.md R156, R157, 41_handshake.md R130, in the reference
waits: a sensor that acknowledges and answers 40 bits, with any number of polls anywhere, is read to the end in
exactly the steps and events of the rules, with the frame it sent in `sr` and its decoded Reading published. -/
def Obligations.EveryAnsweredFrameIsRead : Prop :=
  ∀ (s : State) (k : Nat) (bits : List BitAnswers) (rest : List Bool) (frame : FrameWord),
    AtWake s → bits.length = 40 → frame = shiftedFrame (bits.map BitAnswers.bit) →
    s.cfg.boundAckEnd = none → s.cfg.boundRise = none → s.cfg.boundFall = none →
    (s.cfg.verifyChecksum = false ∨ checksumOk frame = true) →
    s.lineIn = readSamples k bits ++ rest →
    runSteps (readSteps k bits) s = .next { s with
      fsm := Fsm.idle
      mode := .idle
      sr := frame
      cnt := 40#6
      rh := humidityField frame
      rhWritten := true
      temp := u16 (signMagnitude (temperatureField frame))
      tempWritten := true
      lineIn := rest
      draws := s.draws + (readSamples k bits).length
      hist := s.hist ++ readEvents s.cfg k bits ++
        [.mode .idle, .done (humidityField frame) (u16 (signMagnitude (temperatureField frame))) 0b000#3] }

/-- 43_frame_assembler.md R180, in the reference waits: a sensor that sends an int16 pair is read back exactly, whatever
its polls; under `VERIFY_CHECKSUM` when it sends the right checksum. -/
def Obligations.SentPairIsReadBack : Prop :=
  ∀ (s : State) (k : Nat) (bits : List BitAnswers) (rest : List Bool) (h t : Int) (c : BitVec 8),
    AtWake s → -32768 ≤ h → h ≤ 32767 → -32767 ≤ t → t ≤ 32767 →
    bits.map BitAnswers.bit = wireBits (frameOf h t c) →
    s.cfg.boundAckEnd = none → s.cfg.boundRise = none → s.cfg.boundFall = none →
    (s.cfg.verifyChecksum = false ∨ c.toNat = checksum (frameOf h t c)) →
    s.lineIn = readSamples k bits ++ rest →
    ∃ u, runSteps (readSteps k bits) s = .next u ∧ u.fsm = Fsm.idle ∧ u.cause = 0b000#3 ∧
      readingOf (ports u) = ⟨h, t⟩

/-- 42_bit_decoder.md R156, 70_reset_and_hazards.md R260: the run of a successful read in the reference waits ends in IDLE
having requested exactly these delays, whatever its polls. The listed answers are the premise on the sensor (log entry
7). -/
def Obligations.SuccessfulReadRequestsItsDelays : Prop :=
  ∀ (s : State) (k : Nat) (bits : List BitAnswers) (rest : List Bool),
    AtWake s → bits.length = 40 →
    s.cfg.boundAckEnd = none → s.cfg.boundRise = none → s.cfg.boundFall = none →
    (s.cfg.verifyChecksum = false ∨ checksumOk (shiftedFrame (bits.map BitAnswers.bit)) = true) →
    s.lineIn = readSamples k bits ++ rest →
    ∃ u, runSteps (readSteps k bits) s = .next u ∧ u.fsm = Fsm.idle ∧ u.cause = 0b000#3 ∧
      requestedDelay (newEvents s u) = s.cfg.tWake + s.cfg.tRel + s.cfg.tAck0 + s.cfg.tAck1 + 40 * s.cfg.tBit

/-- 60_exceptions.md R223, 42_bit_decoder.md R155: in an unbounded wait a line that stays at the stay level is polled for
as long as it stays, and nothing but the samples happens. A sample while not listening is the model's choice (log
entry 14). -/
def Obligations.StuckLinePollsOn : Prop :=
  ∀ (s : State) (k : Nat) (rest : List Bool),
    standingStop s = none → s.agenda = [] → isWait s.fsm = true → waitBound s.cfg s.fsm = none →
    s.lineIn = List.replicate k (stayLevel s.fsm) ++ rest →
    runSteps k s = .next { s with
      lineIn := rest
      draws := s.draws + k
      hist := s.hist ++ List.replicate k (.sample (stayLevel s.fsm)) }

/-- 60_exceptions.md R223, R228, 40_line_clock.md R101: in a bounded wait the first true answer of the clock ends the read
with TRANSMISSION_HANG and the sentinel, two steps later in IDLE. The answer lists, and that the failure sets the tag
of `cause` also where it was false, are the model's (R27, log entries 7, 21). A sample while not listening is the
model's choice (log entry 14). -/
def Obligations.TimedOutWaitEndsTheRead : Prop :=
  ∀ (s : State) (k b : Nat) (rest crest : List Bool),
    standingStop s = none → s.agenda = [] → isWait s.fsm = true → waitBound s.cfg s.fsm = some b →
    s.lineIn = List.replicate (k + 1) (stayLevel s.fsm) ++ rest →
    s.clockIn = List.replicate k false ++ true :: crest →
    runSteps (k + 3) s = .next { s with
      fsm := Fsm.idle
      mode := .idle
      rh := 0#16
      rhWritten := true
      temp := 0#16
      tempWritten := true
      cause := 0b011#3
      causeWritten := true
      lineIn := rest
      clockIn := crest
      draws := s.draws + 2 * (k + 1)
      hist := s.hist ++ (List.replicate k [.sample (stayLevel s.fsm), .elapsed false]).flatten ++
        [.sample (stayLevel s.fsm), .elapsed true, .mode .idle, .done 0#16 0#16 0b011#3] }

/-- 70_reset_and_hazards.md R262, 40_line_clock.md R101, 44_host_commands.md R201: with every wait bounded, a fair block
and a fair clock, every read ends, whatever the line does and whatever moves the host makes, endlessly many among
them. How the host moves and the form of the clock's fairness are the model's (log entries 5, 10). -/
def Obligations.BoundedReadsEnd : Prop :=
  ∀ (host : Nat → List Turn) (σ : Nat → State), Execution host σ → StateInvariant (σ 0) → AllBounded (σ 0).cfg →
    BlockFair host σ → ClockFair σ → ∀ n, ∃ m, n ≤ m ∧ (σ m).fsm = Fsm.idle
end

