-- ==== Sys2Proof/Laws/Codes.lean ====
section
/-! SUPPORT. The codes as numerals, which `simp` compares, and the state codes by their decoding. -/

namespace Sys2Proof

@[simp] theorem fsm_idle : Fsm.idle = 0b0000#4 := rfl

@[simp] theorem fsm_wakeLow : Fsm.wakeLow = 0b0001#4 := rfl

@[simp] theorem fsm_releaseHigh : Fsm.releaseHigh = 0b0010#4 := rfl

@[simp] theorem fsm_awaitAck0 : Fsm.awaitAck0 = 0b0011#4 := rfl

@[simp] theorem fsm_awaitAck1 : Fsm.awaitAck1 = 0b0100#4 := rfl

@[simp] theorem fsm_awaitAckEnd : Fsm.awaitAckEnd = 0b0101#4 := rfl

@[simp] theorem fsm_ready : Fsm.ready = 0b0110#4 := rfl

@[simp] theorem fsm_bitWaitRise : Fsm.bitWaitRise = 0b0111#4 := rfl

@[simp] theorem fsm_bitSample : Fsm.bitSample = 0b1000#4 := rfl

@[simp] theorem fsm_bitWaitFall : Fsm.bitWaitFall = 0b1001#4 := rfl

@[simp] theorem fsm_decode : Fsm.decode = 0b1010#4 := rfl

@[simp] theorem fsm_failed : Fsm.failed = 0b1011#4 := rfl

@[simp] theorem fsm_finalize : Fsm.finalize = 0b1100#4 := rfl

@[simp] theorem cause_ok : Cause.ok = 0b000#3 := rfl

@[simp] theorem cause_handshakeNoResponse : Cause.handshakeNoResponse = 0b001#3 := rfl

@[simp] theorem cause_handshakeAckMissing : Cause.handshakeAckMissing = 0b010#3 := rfl

@[simp] theorem cause_transmissionHang : Cause.transmissionHang = 0b011#3 := rfl

@[simp] theorem cause_checksumMismatch : Cause.checksumMismatch = 0b100#3 := rfl

/-- A decoded state code is the code of the operation's encoding (R72). -/
theorem encode_of_decodeState : ∀ f i, decodeState f = some i → encode i = .ustate f := by
  have h : ∀ f : FsmWord, (decodeState f).map encode = some (.ustate f) ∨ decodeState f = none := by decide
  intro f i hd
  simpa [hd] using h f

/-- A decoded command is NOP, INIT or READ (R71). -/
theorem decodeCommand_cases : ∀ w i, decodeCommand w = some i →
    (w = 0b00#2 ∧ i = .nop) ∨ (w = 0b01#2 ∧ i = .init) ∨ (w = 0b10#2 ∧ i = .read) := by
  have hw : ∀ w : BitVec 2, w = 0b00#2 ∨ w = 0b01#2 ∨ w = 0b10#2 ∨ w = 0b11#2 := by decide
  intro w i h
  rcases hw w with rfl | rfl | rfl | rfl <;> simp [decodeCommand] at h <;> simp [h]

/-- A decoded state code is one of the thirteen states (R72). -/
theorem decodeState_cases : ∀ f i, decodeState f = some i →
    (f = Fsm.idle ∧ i = .idle) ∨ (f = Fsm.wakeLow ∧ i = .wakeLow) ∨
    (f = Fsm.releaseHigh ∧ i = .releaseHigh) ∨ (f = Fsm.awaitAck0 ∧ i = .awaitAck0) ∨
    (f = Fsm.awaitAck1 ∧ i = .awaitAck1) ∨ (f = Fsm.awaitAckEnd ∧ i = .awaitAckEnd) ∨
    (f = Fsm.ready ∧ i = .ready) ∨ (f = Fsm.bitWaitRise ∧ i = .bitWaitRise) ∨
    (f = Fsm.bitSample ∧ i = .bitSample) ∨ (f = Fsm.bitWaitFall ∧ i = .bitWaitFall) ∨
    (f = Fsm.decode ∧ i = .decode) ∨ (f = Fsm.failed ∧ i = .failed) ∨
    (f = Fsm.finalize ∧ i = .finalize) := by
  intro f i h
  have he := encode_of_decodeState f i h
  cases i <;> simp [encode] at he <;> simp [← he]

end Sys2Proof
end

