-- ==== Sys2Proof/Laws/Operands.lean ====
section
/-! SUPPORT. The datapath functions in arithmetic: the shift, the decoder, and the fields. -/

namespace Sys2Proof.Machine

/-- `Shift40` as arithmetic mod 2^40 (R171). -/
theorem shift40_toNat (s : FrameWord) (v : Bool) :
    (shift40 s v).toNat = (2 * s.toNat + v.toNat) % 2 ^ 40 := by
  cases v
  · simp [shift40, Nat.shiftLeft_eq]
    omega
  · have hand : (s <<< 1) &&& (1#40) = 0#40 := by
      ext i hi
      by_cases h0 : i = 0 <;> simp [h0]
    have hor : shift40 s true = (s <<< 1) + 1#40 := by
      rw [BitVec.add_eq_or_of_and_eq_zero _ _ hand]
      rfl
    rw [hor, BitVec.toNat_add, BitVec.toNat_shiftLeft]
    simp [Nat.shiftLeft_eq]
    omega

/-- Within 39 bits the shift loses nothing (R171, R33 d). -/
theorem shift40_toNat_of_lt {s : FrameWord} (v : Bool) (h : s.toNat < 2 ^ 39) :
    (shift40 s v).toNat = 2 * s.toNat + v.toNat := by
  rw [shift40_toNat]
  have := v.toNat_lt
  omega

/-- `u16` of a small signed value reads back (R12). -/
theorem s16_u16 {x : Int} (h : -32768 ≤ x) (h' : x ≤ 32767) : s16 (u16 x) = x := by
  have ht : (u16 x).toNat = (x % 65536).toNat := by simp [u16]
  have hb : (u16 x).getLsbD 15 = decide (32768 ≤ (u16 x).toNat) :=
    (BitVec.msb_eq_getLsbD_last (u16 x)).symm.trans (by simpa using BitVec.msb_eq_decide (u16 x))
  simp only [s16, hb, ht, decide_eq_true_eq]
  split <;> omega

/-- The decoder's two cases (R173). -/
theorem signMagnitude_eq (t : ResultWord) :
    signMagnitude t = if 32768 ≤ t.toNat then -((t.toNat : Int) - 32768) else t.toNat := by
  have hb : t.getLsbD 15 = decide (32768 ≤ t.toNat) :=
    (BitVec.msb_eq_getLsbD_last t).symm.trans (by simpa using BitVec.msb_eq_decide t)
  have hm : (t.extractLsb' 0 15).toNat = t.toNat % 32768 := by simp
  have := t.isLt
  simp only [signMagnitude, hb, hm, decide_eq_true_eq]
  split <;> omega

/-- Every decoded temperature fits int16, and -32768 is never produced (R173). -/
theorem signMagnitude_range (t : ResultWord) : -32767 ≤ signMagnitude t ∧ signMagnitude t ≤ 32767 := by
  have := t.isLt
  rw [signMagnitude_eq]
  split <;> omega

/-- The frame a list of bits shifts in, one bit more. -/
theorem shiftedFrame_append (bs : List Bool) (b : Bool) :
    shiftedFrame (bs ++ [b]) = shift40 (shiftedFrame bs) b := by
  simp [shiftedFrame]

end Sys2Proof.Machine
end

