-- ==== Sys2Proof/Laws/State.lean ====
section
/-! SUPPORT. One lemma for each field of `State` after each shared update of Machine/Ops.lean, so that no proof unfolds a
record update. -/

namespace Sys2Proof.Machine

section emit

variable (e : Event) (s : State)

@[simp] theorem emit_cfg : (emit e s).cfg = s.cfg := rfl
@[simp] theorem emit_fsm : (emit e s).fsm = s.fsm := rfl
@[simp] theorem emit_sr : (emit e s).sr = s.sr := rfl
@[simp] theorem emit_cnt : (emit e s).cnt = s.cnt := rfl
@[simp] theorem emit_mode : (emit e s).mode = s.mode := rfl
@[simp] theorem emit_rh : (emit e s).rh = s.rh := rfl
@[simp] theorem emit_rhWritten : (emit e s).rhWritten = s.rhWritten := rfl
@[simp] theorem emit_temp : (emit e s).temp = s.temp := rfl
@[simp] theorem emit_tempWritten : (emit e s).tempWritten = s.tempWritten := rfl
@[simp] theorem emit_cause : (emit e s).cause = s.cause := rfl
@[simp] theorem emit_causeWritten : (emit e s).causeWritten = s.causeWritten := rfl
@[simp] theorem emit_bound : (emit e s).bound = s.bound := rfl
@[simp] theorem emit_hist : (emit e s).hist = s.hist ++ [e] := rfl
@[simp] theorem emit_refusalMark : (emit e s).refusalMark = s.refusalMark := rfl
@[simp] theorem emit_faultMark : (emit e s).faultMark = s.faultMark := rfl
@[simp] theorem emit_agenda : (emit e s).agenda = s.agenda := rfl
@[simp] theorem emit_lineIn : (emit e s).lineIn = s.lineIn := rfl
@[simp] theorem emit_clockIn : (emit e s).clockIn = s.clockIn := rfl
@[simp] theorem emit_draws : (emit e s).draws = s.draws := rfl
@[simp] theorem emit_hostGot : (emit e s).hostGot = s.hostGot := rfl

end emit

section goto

variable (f : FsmWord) (s : State)

@[simp] theorem goto_cfg : (goto f s).cfg = s.cfg := rfl
@[simp] theorem goto_fsm : (goto f s).fsm = f := rfl
@[simp] theorem goto_sr : (goto f s).sr = s.sr := rfl
@[simp] theorem goto_cnt : (goto f s).cnt = s.cnt := rfl
@[simp] theorem goto_mode : (goto f s).mode = s.mode := rfl
@[simp] theorem goto_rh : (goto f s).rh = s.rh := rfl
@[simp] theorem goto_rhWritten : (goto f s).rhWritten = s.rhWritten := rfl
@[simp] theorem goto_temp : (goto f s).temp = s.temp := rfl
@[simp] theorem goto_tempWritten : (goto f s).tempWritten = s.tempWritten := rfl
@[simp] theorem goto_cause : (goto f s).cause = s.cause := rfl
@[simp] theorem goto_causeWritten : (goto f s).causeWritten = s.causeWritten := rfl
@[simp] theorem goto_bound : (goto f s).bound = s.bound := rfl
@[simp] theorem goto_hist : (goto f s).hist = s.hist := rfl
@[simp] theorem goto_refusalMark : (goto f s).refusalMark = s.refusalMark := rfl
@[simp] theorem goto_faultMark : (goto f s).faultMark = s.faultMark := rfl
@[simp] theorem goto_agenda : (goto f s).agenda = s.agenda := rfl
@[simp] theorem goto_lineIn : (goto f s).lineIn = s.lineIn := rfl
@[simp] theorem goto_clockIn : (goto f s).clockIn = s.clockIn := rfl
@[simp] theorem goto_draws : (goto f s).draws = s.draws := rfl
@[simp] theorem goto_hostGot : (goto f s).hostGot = s.hostGot := rfl

end goto

section setMode

variable (m : LineState) (s : State)

@[simp] theorem setMode_cfg : (setMode m s).cfg = s.cfg := rfl
@[simp] theorem setMode_fsm : (setMode m s).fsm = s.fsm := rfl
@[simp] theorem setMode_sr : (setMode m s).sr = s.sr := rfl
@[simp] theorem setMode_cnt : (setMode m s).cnt = s.cnt := rfl
@[simp] theorem setMode_mode : (setMode m s).mode = m := rfl
@[simp] theorem setMode_rh : (setMode m s).rh = s.rh := rfl
@[simp] theorem setMode_rhWritten : (setMode m s).rhWritten = s.rhWritten := rfl
@[simp] theorem setMode_temp : (setMode m s).temp = s.temp := rfl
@[simp] theorem setMode_tempWritten : (setMode m s).tempWritten = s.tempWritten := rfl
@[simp] theorem setMode_cause : (setMode m s).cause = s.cause := rfl
@[simp] theorem setMode_causeWritten : (setMode m s).causeWritten = s.causeWritten := rfl
@[simp] theorem setMode_bound : (setMode m s).bound = s.bound := rfl
@[simp] theorem setMode_hist : (setMode m s).hist = s.hist ++ [.mode m] := rfl
@[simp] theorem setMode_refusalMark : (setMode m s).refusalMark = s.refusalMark := rfl
@[simp] theorem setMode_faultMark : (setMode m s).faultMark = s.faultMark := rfl
@[simp] theorem setMode_agenda : (setMode m s).agenda = s.agenda := rfl
@[simp] theorem setMode_lineIn : (setMode m s).lineIn = s.lineIn := rfl
@[simp] theorem setMode_clockIn : (setMode m s).clockIn = s.clockIn := rfl
@[simp] theorem setMode_draws : (setMode m s).draws = s.draws := rfl
@[simp] theorem setMode_hostGot : (setMode m s).hostGot = s.hostGot := rfl

end setMode

section delay

variable (n : Nat) (s : State)

@[simp] theorem delay_cfg : (delay n s).cfg = s.cfg := rfl
@[simp] theorem delay_fsm : (delay n s).fsm = s.fsm := rfl
@[simp] theorem delay_sr : (delay n s).sr = s.sr := rfl
@[simp] theorem delay_cnt : (delay n s).cnt = s.cnt := rfl
@[simp] theorem delay_mode : (delay n s).mode = s.mode := rfl
@[simp] theorem delay_rh : (delay n s).rh = s.rh := rfl
@[simp] theorem delay_rhWritten : (delay n s).rhWritten = s.rhWritten := rfl
@[simp] theorem delay_temp : (delay n s).temp = s.temp := rfl
@[simp] theorem delay_tempWritten : (delay n s).tempWritten = s.tempWritten := rfl
@[simp] theorem delay_cause : (delay n s).cause = s.cause := rfl
@[simp] theorem delay_causeWritten : (delay n s).causeWritten = s.causeWritten := rfl
@[simp] theorem delay_bound : (delay n s).bound = s.bound := rfl
@[simp] theorem delay_hist : (delay n s).hist = s.hist ++ [.delay n] := rfl
@[simp] theorem delay_refusalMark : (delay n s).refusalMark = s.refusalMark := rfl
@[simp] theorem delay_faultMark : (delay n s).faultMark = s.faultMark := rfl
@[simp] theorem delay_agenda : (delay n s).agenda = s.agenda := rfl
@[simp] theorem delay_lineIn : (delay n s).lineIn = s.lineIn := rfl
@[simp] theorem delay_clockIn : (delay n s).clockIn = s.clockIn := rfl
@[simp] theorem delay_draws : (delay n s).draws = s.draws := rfl
@[simp] theorem delay_hostGot : (delay n s).hostGot = s.hostGot := rfl

end delay

section takeLineAnswer

variable (s : State)

@[simp] theorem takeLineAnswer_cfg : (takeLineAnswer s).cfg = s.cfg := rfl
@[simp] theorem takeLineAnswer_fsm : (takeLineAnswer s).fsm = s.fsm := rfl
@[simp] theorem takeLineAnswer_sr : (takeLineAnswer s).sr = s.sr := rfl
@[simp] theorem takeLineAnswer_cnt : (takeLineAnswer s).cnt = s.cnt := rfl
@[simp] theorem takeLineAnswer_mode : (takeLineAnswer s).mode = s.mode := rfl
@[simp] theorem takeLineAnswer_rh : (takeLineAnswer s).rh = s.rh := rfl
@[simp] theorem takeLineAnswer_rhWritten : (takeLineAnswer s).rhWritten = s.rhWritten := rfl
@[simp] theorem takeLineAnswer_temp : (takeLineAnswer s).temp = s.temp := rfl
@[simp] theorem takeLineAnswer_tempWritten : (takeLineAnswer s).tempWritten = s.tempWritten := rfl
@[simp] theorem takeLineAnswer_cause : (takeLineAnswer s).cause = s.cause := rfl
@[simp] theorem takeLineAnswer_causeWritten : (takeLineAnswer s).causeWritten = s.causeWritten := rfl
@[simp] theorem takeLineAnswer_bound : (takeLineAnswer s).bound = s.bound := rfl
@[simp] theorem takeLineAnswer_hist : (takeLineAnswer s).hist = s.hist := rfl
@[simp] theorem takeLineAnswer_refusalMark : (takeLineAnswer s).refusalMark = s.refusalMark := rfl
@[simp] theorem takeLineAnswer_faultMark : (takeLineAnswer s).faultMark = s.faultMark := rfl
@[simp] theorem takeLineAnswer_agenda : (takeLineAnswer s).agenda = s.agenda := rfl
@[simp] theorem takeLineAnswer_lineIn : (takeLineAnswer s).lineIn = s.lineIn.tail := rfl
@[simp] theorem takeLineAnswer_clockIn : (takeLineAnswer s).clockIn = s.clockIn := rfl
@[simp] theorem takeLineAnswer_draws : (takeLineAnswer s).draws = s.draws + 1 := rfl
@[simp] theorem takeLineAnswer_hostGot : (takeLineAnswer s).hostGot = s.hostGot := rfl

end takeLineAnswer

section sampled

variable (s : State)

@[simp] theorem sampled_cfg : (sampled s).cfg = s.cfg := rfl
@[simp] theorem sampled_fsm : (sampled s).fsm = s.fsm := rfl
@[simp] theorem sampled_sr : (sampled s).sr = s.sr := rfl
@[simp] theorem sampled_cnt : (sampled s).cnt = s.cnt := rfl
@[simp] theorem sampled_mode : (sampled s).mode = s.mode := rfl
@[simp] theorem sampled_rh : (sampled s).rh = s.rh := rfl
@[simp] theorem sampled_rhWritten : (sampled s).rhWritten = s.rhWritten := rfl
@[simp] theorem sampled_temp : (sampled s).temp = s.temp := rfl
@[simp] theorem sampled_tempWritten : (sampled s).tempWritten = s.tempWritten := rfl
@[simp] theorem sampled_cause : (sampled s).cause = s.cause := rfl
@[simp] theorem sampled_causeWritten : (sampled s).causeWritten = s.causeWritten := rfl
@[simp] theorem sampled_bound : (sampled s).bound = s.bound := rfl
@[simp] theorem sampled_hist : (sampled s).hist = s.hist ++ [.sample (lineLevel s)] := rfl
@[simp] theorem sampled_refusalMark : (sampled s).refusalMark = s.refusalMark := rfl
@[simp] theorem sampled_faultMark : (sampled s).faultMark = s.faultMark := rfl
@[simp] theorem sampled_agenda : (sampled s).agenda = s.agenda := rfl
@[simp] theorem sampled_lineIn : (sampled s).lineIn = s.lineIn.tail := rfl
@[simp] theorem sampled_clockIn : (sampled s).clockIn = s.clockIn := rfl
@[simp] theorem sampled_draws : (sampled s).draws = s.draws + 1 := rfl
@[simp] theorem sampled_hostGot : (sampled s).hostGot = s.hostGot := rfl

end sampled

section takeClockAnswer

variable (s : State)

@[simp] theorem takeClockAnswer_cfg : (takeClockAnswer s).cfg = s.cfg := rfl
@[simp] theorem takeClockAnswer_fsm : (takeClockAnswer s).fsm = s.fsm := rfl
@[simp] theorem takeClockAnswer_sr : (takeClockAnswer s).sr = s.sr := rfl
@[simp] theorem takeClockAnswer_cnt : (takeClockAnswer s).cnt = s.cnt := rfl
@[simp] theorem takeClockAnswer_mode : (takeClockAnswer s).mode = s.mode := rfl
@[simp] theorem takeClockAnswer_rh : (takeClockAnswer s).rh = s.rh := rfl
@[simp] theorem takeClockAnswer_rhWritten : (takeClockAnswer s).rhWritten = s.rhWritten := rfl
@[simp] theorem takeClockAnswer_temp : (takeClockAnswer s).temp = s.temp := rfl
@[simp] theorem takeClockAnswer_tempWritten : (takeClockAnswer s).tempWritten = s.tempWritten := rfl
@[simp] theorem takeClockAnswer_cause : (takeClockAnswer s).cause = s.cause := rfl
@[simp] theorem takeClockAnswer_causeWritten : (takeClockAnswer s).causeWritten = s.causeWritten := rfl
@[simp] theorem takeClockAnswer_bound : (takeClockAnswer s).bound = s.bound := rfl
@[simp] theorem takeClockAnswer_hist : (takeClockAnswer s).hist = s.hist := rfl
@[simp] theorem takeClockAnswer_refusalMark : (takeClockAnswer s).refusalMark = s.refusalMark := rfl
@[simp] theorem takeClockAnswer_faultMark : (takeClockAnswer s).faultMark = s.faultMark := rfl
@[simp] theorem takeClockAnswer_agenda : (takeClockAnswer s).agenda = s.agenda := rfl
@[simp] theorem takeClockAnswer_lineIn : (takeClockAnswer s).lineIn = s.lineIn := rfl
@[simp] theorem takeClockAnswer_clockIn : (takeClockAnswer s).clockIn = s.clockIn.tail := rfl
@[simp] theorem takeClockAnswer_draws : (takeClockAnswer s).draws = s.draws + 1 := rfl
@[simp] theorem takeClockAnswer_hostGot : (takeClockAnswer s).hostGot = s.hostGot := rfl

end takeClockAnswer

section timeoutAsked

variable (b : Nat) (s : State)

@[simp] theorem timeoutAsked_cfg : (timeoutAsked b s).cfg = s.cfg := rfl
@[simp] theorem timeoutAsked_fsm : (timeoutAsked b s).fsm = s.fsm := rfl
@[simp] theorem timeoutAsked_sr : (timeoutAsked b s).sr = s.sr := rfl
@[simp] theorem timeoutAsked_cnt : (timeoutAsked b s).cnt = s.cnt := rfl
@[simp] theorem timeoutAsked_mode : (timeoutAsked b s).mode = s.mode := rfl
@[simp] theorem timeoutAsked_rh : (timeoutAsked b s).rh = s.rh := rfl
@[simp] theorem timeoutAsked_rhWritten : (timeoutAsked b s).rhWritten = s.rhWritten := rfl
@[simp] theorem timeoutAsked_temp : (timeoutAsked b s).temp = s.temp := rfl
@[simp] theorem timeoutAsked_tempWritten : (timeoutAsked b s).tempWritten = s.tempWritten := rfl
@[simp] theorem timeoutAsked_cause : (timeoutAsked b s).cause = s.cause := rfl
@[simp] theorem timeoutAsked_causeWritten : (timeoutAsked b s).causeWritten = s.causeWritten := rfl
@[simp] theorem timeoutAsked_bound : (timeoutAsked b s).bound = s.bound := rfl
@[simp] theorem timeoutAsked_hist : (timeoutAsked b s).hist = s.hist ++ [.elapsed (clockAnswer b s)] := rfl
@[simp] theorem timeoutAsked_refusalMark : (timeoutAsked b s).refusalMark = s.refusalMark := rfl
@[simp] theorem timeoutAsked_faultMark : (timeoutAsked b s).faultMark = s.faultMark := rfl
@[simp] theorem timeoutAsked_agenda : (timeoutAsked b s).agenda = s.agenda := rfl
@[simp] theorem timeoutAsked_lineIn : (timeoutAsked b s).lineIn = s.lineIn := rfl
@[simp] theorem timeoutAsked_clockIn : (timeoutAsked b s).clockIn = s.clockIn.tail := rfl
@[simp] theorem timeoutAsked_draws : (timeoutAsked b s).draws = s.draws + 1 := rfl
@[simp] theorem timeoutAsked_hostGot : (timeoutAsked b s).hostGot = s.hostGot := rfl

end timeoutAsked

section writeCause

variable (c : CauseWord) (s : State)

@[simp] theorem writeCause_cfg : (writeCause c s).cfg = s.cfg := rfl
@[simp] theorem writeCause_fsm : (writeCause c s).fsm = s.fsm := rfl
@[simp] theorem writeCause_sr : (writeCause c s).sr = s.sr := rfl
@[simp] theorem writeCause_cnt : (writeCause c s).cnt = s.cnt := rfl
@[simp] theorem writeCause_mode : (writeCause c s).mode = s.mode := rfl
@[simp] theorem writeCause_rh : (writeCause c s).rh = s.rh := rfl
@[simp] theorem writeCause_rhWritten : (writeCause c s).rhWritten = s.rhWritten := rfl
@[simp] theorem writeCause_temp : (writeCause c s).temp = s.temp := rfl
@[simp] theorem writeCause_tempWritten : (writeCause c s).tempWritten = s.tempWritten := rfl
@[simp] theorem writeCause_cause : (writeCause c s).cause = c := rfl
@[simp] theorem writeCause_causeWritten : (writeCause c s).causeWritten = true := rfl
@[simp] theorem writeCause_bound : (writeCause c s).bound = s.bound := rfl
@[simp] theorem writeCause_hist : (writeCause c s).hist = s.hist := rfl
@[simp] theorem writeCause_refusalMark : (writeCause c s).refusalMark = s.refusalMark := rfl
@[simp] theorem writeCause_faultMark : (writeCause c s).faultMark = s.faultMark := rfl
@[simp] theorem writeCause_agenda : (writeCause c s).agenda = s.agenda := rfl
@[simp] theorem writeCause_lineIn : (writeCause c s).lineIn = s.lineIn := rfl
@[simp] theorem writeCause_clockIn : (writeCause c s).clockIn = s.clockIn := rfl
@[simp] theorem writeCause_draws : (writeCause c s).draws = s.draws := rfl
@[simp] theorem writeCause_hostGot : (writeCause c s).hostGot = s.hostGot := rfl

end writeCause

section writeResults

variable (h t : ResultWord) (s : State)

@[simp] theorem writeResults_cfg : (writeResults h t s).cfg = s.cfg := rfl
@[simp] theorem writeResults_fsm : (writeResults h t s).fsm = s.fsm := rfl
@[simp] theorem writeResults_sr : (writeResults h t s).sr = s.sr := rfl
@[simp] theorem writeResults_cnt : (writeResults h t s).cnt = s.cnt := rfl
@[simp] theorem writeResults_mode : (writeResults h t s).mode = s.mode := rfl
@[simp] theorem writeResults_rh : (writeResults h t s).rh = h := rfl
@[simp] theorem writeResults_rhWritten : (writeResults h t s).rhWritten = true := rfl
@[simp] theorem writeResults_temp : (writeResults h t s).temp = t := rfl
@[simp] theorem writeResults_tempWritten : (writeResults h t s).tempWritten = true := rfl
@[simp] theorem writeResults_cause : (writeResults h t s).cause = s.cause := rfl
@[simp] theorem writeResults_causeWritten : (writeResults h t s).causeWritten = s.causeWritten := rfl
@[simp] theorem writeResults_bound : (writeResults h t s).bound = s.bound := rfl
@[simp] theorem writeResults_hist : (writeResults h t s).hist = s.hist := rfl
@[simp] theorem writeResults_refusalMark : (writeResults h t s).refusalMark = s.refusalMark := rfl
@[simp] theorem writeResults_faultMark : (writeResults h t s).faultMark = s.faultMark := rfl
@[simp] theorem writeResults_agenda : (writeResults h t s).agenda = s.agenda := rfl
@[simp] theorem writeResults_lineIn : (writeResults h t s).lineIn = s.lineIn := rfl
@[simp] theorem writeResults_clockIn : (writeResults h t s).clockIn = s.clockIn := rfl
@[simp] theorem writeResults_draws : (writeResults h t s).draws = s.draws := rfl
@[simp] theorem writeResults_hostGot : (writeResults h t s).hostGot = s.hostGot := rfl

end writeResults

section clearFrame

variable (s : State)

@[simp] theorem clearFrame_cfg : (clearFrame s).cfg = s.cfg := rfl
@[simp] theorem clearFrame_fsm : (clearFrame s).fsm = s.fsm := rfl
@[simp] theorem clearFrame_sr : (clearFrame s).sr = 0#40 := rfl
@[simp] theorem clearFrame_cnt : (clearFrame s).cnt = 0#6 := rfl
@[simp] theorem clearFrame_mode : (clearFrame s).mode = s.mode := rfl
@[simp] theorem clearFrame_rh : (clearFrame s).rh = s.rh := rfl
@[simp] theorem clearFrame_rhWritten : (clearFrame s).rhWritten = s.rhWritten := rfl
@[simp] theorem clearFrame_temp : (clearFrame s).temp = s.temp := rfl
@[simp] theorem clearFrame_tempWritten : (clearFrame s).tempWritten = s.tempWritten := rfl
@[simp] theorem clearFrame_cause : (clearFrame s).cause = s.cause := rfl
@[simp] theorem clearFrame_causeWritten : (clearFrame s).causeWritten = s.causeWritten := rfl
@[simp] theorem clearFrame_bound : (clearFrame s).bound = s.bound := rfl
@[simp] theorem clearFrame_hist : (clearFrame s).hist = s.hist := rfl
@[simp] theorem clearFrame_refusalMark : (clearFrame s).refusalMark = s.refusalMark := rfl
@[simp] theorem clearFrame_faultMark : (clearFrame s).faultMark = s.faultMark := rfl
@[simp] theorem clearFrame_agenda : (clearFrame s).agenda = s.agenda := rfl
@[simp] theorem clearFrame_lineIn : (clearFrame s).lineIn = s.lineIn := rfl
@[simp] theorem clearFrame_clockIn : (clearFrame s).clockIn = s.clockIn := rfl
@[simp] theorem clearFrame_draws : (clearFrame s).draws = s.draws := rfl
@[simp] theorem clearFrame_hostGot : (clearFrame s).hostGot = s.hostGot := rfl

end clearFrame

section shiftIn

variable (v : Bool) (s : State)

@[simp] theorem shiftIn_cfg : (shiftIn v s).cfg = s.cfg := rfl
@[simp] theorem shiftIn_fsm : (shiftIn v s).fsm = s.fsm := rfl
@[simp] theorem shiftIn_sr : (shiftIn v s).sr = shift40 s.sr v := rfl
@[simp] theorem shiftIn_cnt : (shiftIn v s).cnt = s.cnt + 1#6 := rfl
@[simp] theorem shiftIn_mode : (shiftIn v s).mode = s.mode := rfl
@[simp] theorem shiftIn_rh : (shiftIn v s).rh = s.rh := rfl
@[simp] theorem shiftIn_rhWritten : (shiftIn v s).rhWritten = s.rhWritten := rfl
@[simp] theorem shiftIn_temp : (shiftIn v s).temp = s.temp := rfl
@[simp] theorem shiftIn_tempWritten : (shiftIn v s).tempWritten = s.tempWritten := rfl
@[simp] theorem shiftIn_cause : (shiftIn v s).cause = s.cause := rfl
@[simp] theorem shiftIn_causeWritten : (shiftIn v s).causeWritten = s.causeWritten := rfl
@[simp] theorem shiftIn_bound : (shiftIn v s).bound = s.bound := rfl
@[simp] theorem shiftIn_hist : (shiftIn v s).hist = s.hist := rfl
@[simp] theorem shiftIn_refusalMark : (shiftIn v s).refusalMark = s.refusalMark := rfl
@[simp] theorem shiftIn_faultMark : (shiftIn v s).faultMark = s.faultMark := rfl
@[simp] theorem shiftIn_agenda : (shiftIn v s).agenda = s.agenda := rfl
@[simp] theorem shiftIn_lineIn : (shiftIn v s).lineIn = s.lineIn := rfl
@[simp] theorem shiftIn_clockIn : (shiftIn v s).clockIn = s.clockIn := rfl
@[simp] theorem shiftIn_draws : (shiftIn v s).draws = s.draws := rfl
@[simp] theorem shiftIn_hostGot : (shiftIn v s).hostGot = s.hostGot := rfl

end shiftIn

section bindLine

variable (s : State)

@[simp] theorem bindLine_cfg : (bindLine s).cfg = s.cfg := rfl
@[simp] theorem bindLine_fsm : (bindLine s).fsm = s.fsm := rfl
@[simp] theorem bindLine_sr : (bindLine s).sr = s.sr := rfl
@[simp] theorem bindLine_cnt : (bindLine s).cnt = s.cnt := rfl
@[simp] theorem bindLine_mode : (bindLine s).mode = s.mode := rfl
@[simp] theorem bindLine_rh : (bindLine s).rh = s.rh := rfl
@[simp] theorem bindLine_rhWritten : (bindLine s).rhWritten = s.rhWritten := rfl
@[simp] theorem bindLine_temp : (bindLine s).temp = s.temp := rfl
@[simp] theorem bindLine_tempWritten : (bindLine s).tempWritten = s.tempWritten := rfl
@[simp] theorem bindLine_cause : (bindLine s).cause = s.cause := rfl
@[simp] theorem bindLine_causeWritten : (bindLine s).causeWritten = s.causeWritten := rfl
@[simp] theorem bindLine_bound : (bindLine s).bound = true := rfl
@[simp] theorem bindLine_hist : (bindLine s).hist = s.hist := rfl
@[simp] theorem bindLine_refusalMark : (bindLine s).refusalMark = s.refusalMark := rfl
@[simp] theorem bindLine_faultMark : (bindLine s).faultMark = s.faultMark := rfl
@[simp] theorem bindLine_agenda : (bindLine s).agenda = s.agenda := rfl
@[simp] theorem bindLine_lineIn : (bindLine s).lineIn = s.lineIn := rfl
@[simp] theorem bindLine_clockIn : (bindLine s).clockIn = s.clockIn := rfl
@[simp] theorem bindLine_draws : (bindLine s).draws = s.draws := rfl
@[simp] theorem bindLine_hostGot : (bindLine s).hostGot = s.hostGot := rfl

end bindLine

section raiseFailure

variable (c : CauseWord) (s : State)

@[simp] theorem raiseFailure_cfg : (raiseFailure c s).cfg = s.cfg := rfl
@[simp] theorem raiseFailure_fsm : (raiseFailure c s).fsm = Fsm.failed := rfl
@[simp] theorem raiseFailure_sr : (raiseFailure c s).sr = s.sr := rfl
@[simp] theorem raiseFailure_cnt : (raiseFailure c s).cnt = s.cnt := rfl
@[simp] theorem raiseFailure_mode : (raiseFailure c s).mode = s.mode := rfl
@[simp] theorem raiseFailure_rh : (raiseFailure c s).rh = s.rh := rfl
@[simp] theorem raiseFailure_rhWritten : (raiseFailure c s).rhWritten = s.rhWritten := rfl
@[simp] theorem raiseFailure_temp : (raiseFailure c s).temp = s.temp := rfl
@[simp] theorem raiseFailure_tempWritten : (raiseFailure c s).tempWritten = s.tempWritten := rfl
@[simp] theorem raiseFailure_cause : (raiseFailure c s).cause = c := rfl
@[simp] theorem raiseFailure_causeWritten : (raiseFailure c s).causeWritten = true := rfl
@[simp] theorem raiseFailure_bound : (raiseFailure c s).bound = s.bound := rfl
@[simp] theorem raiseFailure_hist : (raiseFailure c s).hist = s.hist := rfl
@[simp] theorem raiseFailure_refusalMark : (raiseFailure c s).refusalMark = s.refusalMark := rfl
@[simp] theorem raiseFailure_faultMark : (raiseFailure c s).faultMark = s.faultMark := rfl
@[simp] theorem raiseFailure_agenda : (raiseFailure c s).agenda = s.agenda := rfl
@[simp] theorem raiseFailure_lineIn : (raiseFailure c s).lineIn = s.lineIn := rfl
@[simp] theorem raiseFailure_clockIn : (raiseFailure c s).clockIn = s.clockIn := rfl
@[simp] theorem raiseFailure_draws : (raiseFailure c s).draws = s.draws := rfl
@[simp] theorem raiseFailure_hostGot : (raiseFailure c s).hostGot = s.hostGot := rfl

end raiseFailure

section refuse

variable (r : RefusalReason) (s : State)

@[simp] theorem refuse_cfg : (refuse r s).cfg = s.cfg := rfl
@[simp] theorem refuse_fsm : (refuse r s).fsm = s.fsm := rfl
@[simp] theorem refuse_sr : (refuse r s).sr = s.sr := rfl
@[simp] theorem refuse_cnt : (refuse r s).cnt = s.cnt := rfl
@[simp] theorem refuse_mode : (refuse r s).mode = s.mode := rfl
@[simp] theorem refuse_rh : (refuse r s).rh = s.rh := rfl
@[simp] theorem refuse_rhWritten : (refuse r s).rhWritten = s.rhWritten := rfl
@[simp] theorem refuse_temp : (refuse r s).temp = s.temp := rfl
@[simp] theorem refuse_tempWritten : (refuse r s).tempWritten = s.tempWritten := rfl
@[simp] theorem refuse_cause : (refuse r s).cause = s.cause := rfl
@[simp] theorem refuse_causeWritten : (refuse r s).causeWritten = s.causeWritten := rfl
@[simp] theorem refuse_bound : (refuse r s).bound = s.bound := rfl
@[simp] theorem refuse_hist : (refuse r s).hist = s.hist := rfl
@[simp] theorem refuse_refusalMark : (refuse r s).refusalMark = addReason r s.refusalMark := rfl
@[simp] theorem refuse_faultMark : (refuse r s).faultMark = s.faultMark := rfl
@[simp] theorem refuse_agenda : (refuse r s).agenda = s.agenda := rfl
@[simp] theorem refuse_lineIn : (refuse r s).lineIn = s.lineIn := rfl
@[simp] theorem refuse_clockIn : (refuse r s).clockIn = s.clockIn := rfl
@[simp] theorem refuse_draws : (refuse r s).draws = s.draws := rfl
@[simp] theorem refuse_hostGot : (refuse r s).hostGot = s.hostGot := rfl

end refuse

section latchPorts

variable (s : State)

@[simp] theorem latchPorts_cfg : (latchPorts s).cfg = s.cfg := rfl
@[simp] theorem latchPorts_fsm : (latchPorts s).fsm = s.fsm := rfl
@[simp] theorem latchPorts_sr : (latchPorts s).sr = s.sr := rfl
@[simp] theorem latchPorts_cnt : (latchPorts s).cnt = s.cnt := rfl
@[simp] theorem latchPorts_mode : (latchPorts s).mode = s.mode := rfl
@[simp] theorem latchPorts_rh : (latchPorts s).rh = s.rh := rfl
@[simp] theorem latchPorts_rhWritten : (latchPorts s).rhWritten = s.rhWritten := rfl
@[simp] theorem latchPorts_temp : (latchPorts s).temp = s.temp := rfl
@[simp] theorem latchPorts_tempWritten : (latchPorts s).tempWritten = s.tempWritten := rfl
@[simp] theorem latchPorts_cause : (latchPorts s).cause = s.cause := rfl
@[simp] theorem latchPorts_causeWritten : (latchPorts s).causeWritten = s.causeWritten := rfl
@[simp] theorem latchPorts_bound : (latchPorts s).bound = s.bound := rfl
@[simp] theorem latchPorts_hist : (latchPorts s).hist = s.hist := rfl
@[simp] theorem latchPorts_refusalMark : (latchPorts s).refusalMark = s.refusalMark := rfl
@[simp] theorem latchPorts_faultMark : (latchPorts s).faultMark = s.faultMark := rfl
@[simp] theorem latchPorts_agenda : (latchPorts s).agenda = s.agenda := rfl
@[simp] theorem latchPorts_lineIn : (latchPorts s).lineIn = s.lineIn := rfl
@[simp] theorem latchPorts_clockIn : (latchPorts s).clockIn = s.clockIn := rfl
@[simp] theorem latchPorts_draws : (latchPorts s).draws = s.draws := rfl
@[simp] theorem latchPorts_hostGot : (latchPorts s).hostGot = some (ports s) := rfl

end latchPorts

section endTurn

variable (l : List Turn) (s : State)

@[simp] theorem endTurn_cfg : (endTurn l s).cfg = s.cfg := rfl
@[simp] theorem endTurn_fsm : (endTurn l s).fsm = s.fsm := rfl
@[simp] theorem endTurn_sr : (endTurn l s).sr = s.sr := rfl
@[simp] theorem endTurn_cnt : (endTurn l s).cnt = s.cnt := rfl
@[simp] theorem endTurn_mode : (endTurn l s).mode = s.mode := rfl
@[simp] theorem endTurn_rh : (endTurn l s).rh = s.rh := rfl
@[simp] theorem endTurn_rhWritten : (endTurn l s).rhWritten = s.rhWritten := rfl
@[simp] theorem endTurn_temp : (endTurn l s).temp = s.temp := rfl
@[simp] theorem endTurn_tempWritten : (endTurn l s).tempWritten = s.tempWritten := rfl
@[simp] theorem endTurn_cause : (endTurn l s).cause = s.cause := rfl
@[simp] theorem endTurn_causeWritten : (endTurn l s).causeWritten = s.causeWritten := rfl
@[simp] theorem endTurn_bound : (endTurn l s).bound = s.bound := rfl
@[simp] theorem endTurn_hist : (endTurn l s).hist = s.hist := rfl
@[simp] theorem endTurn_refusalMark : (endTurn l s).refusalMark = s.refusalMark := rfl
@[simp] theorem endTurn_faultMark : (endTurn l s).faultMark = s.faultMark := rfl
@[simp] theorem endTurn_agenda : (endTurn l s).agenda = l := rfl
@[simp] theorem endTurn_lineIn : (endTurn l s).lineIn = s.lineIn := rfl
@[simp] theorem endTurn_clockIn : (endTurn l s).clockIn = s.clockIn := rfl
@[simp] theorem endTurn_draws : (endTurn l s).draws = s.draws := rfl
@[simp] theorem endTurn_hostGot : (endTurn l s).hostGot = s.hostGot := rfl

end endTurn

section schedule

variable (l : List Turn) (s : State)

@[simp] theorem schedule_cfg : (schedule l s).cfg = s.cfg := rfl
@[simp] theorem schedule_fsm : (schedule l s).fsm = s.fsm := rfl
@[simp] theorem schedule_sr : (schedule l s).sr = s.sr := rfl
@[simp] theorem schedule_cnt : (schedule l s).cnt = s.cnt := rfl
@[simp] theorem schedule_mode : (schedule l s).mode = s.mode := rfl
@[simp] theorem schedule_rh : (schedule l s).rh = s.rh := rfl
@[simp] theorem schedule_rhWritten : (schedule l s).rhWritten = s.rhWritten := rfl
@[simp] theorem schedule_temp : (schedule l s).temp = s.temp := rfl
@[simp] theorem schedule_tempWritten : (schedule l s).tempWritten = s.tempWritten := rfl
@[simp] theorem schedule_cause : (schedule l s).cause = s.cause := rfl
@[simp] theorem schedule_causeWritten : (schedule l s).causeWritten = s.causeWritten := rfl
@[simp] theorem schedule_bound : (schedule l s).bound = s.bound := rfl
@[simp] theorem schedule_hist : (schedule l s).hist = s.hist := rfl
@[simp] theorem schedule_refusalMark : (schedule l s).refusalMark = s.refusalMark := rfl
@[simp] theorem schedule_faultMark : (schedule l s).faultMark = s.faultMark := rfl
@[simp] theorem schedule_agenda : (schedule l s).agenda = s.agenda ++ l := rfl
@[simp] theorem schedule_lineIn : (schedule l s).lineIn = s.lineIn := rfl
@[simp] theorem schedule_clockIn : (schedule l s).clockIn = s.clockIn := rfl
@[simp] theorem schedule_draws : (schedule l s).draws = s.draws := rfl
@[simp] theorem schedule_hostGot : (schedule l s).hostGot = s.hostGot := rfl

end schedule

end Sys2Proof.Machine
end

