-- ==== Sys2Proof/Laws/Ops.lean ====
section
/-! SUPPORT. What each shared operation of Machine/Ops.lean does, once: the oracles' answers, the composed line
operations, one poll of a busy-wait, the refusal mark, and GET. -/

namespace Sys2Proof.Machine

/-- With an answer listed, the line oracle gives it. -/
theorem lineLevel_of_listed {s : State} {v : Bool} {rest : List Bool} (h : s.lineIn = v :: rest) :
    lineLevel s = v := by
  simp [lineLevel, h]

/-- With no answer listed, the line oracle gives its free answer. -/
theorem lineLevel_of_free {s : State} (h : s.lineIn = []) :
    lineLevel s = Config.freeLineLevel s.draws s.hist := by
  simp [lineLevel, h]

/-- With an answer listed, the clock oracle gives it. -/
theorem clockAnswer_of_listed {s : State} {b : Nat} {v : Bool} {rest : List Bool} (h : s.clockIn = v :: rest) :
    clockAnswer b s = v := by
  simp [clockAnswer, h]

/-- With no answer listed, the clock oracle gives its free answer. -/
theorem clockAnswer_of_free {s : State} {b : Nat} (h : s.clockIn = []) :
    clockAnswer b s = Config.freeTimeout s.draws s.hist b := by
  simp [clockAnswer, h]

/-- The release pulse as one update (R104). -/
theorem driveHighRelease_eq (t : Nat) (s : State) :
    driveHighRelease t s = { s with
      mode := .listening
      hist := s.hist ++ [.mode .drivingHigh, .delay t, .mode .listening] } := by
  simp [driveHighRelease, setMode, delay, emit]

/-- The return from a read as one update (R178). -/
theorem finishRead_eq (s : State) :
    finishRead s = { s with
      fsm := Fsm.idle
      mode := .idle
      hist := s.hist ++ [.mode .idle, .done s.rh s.temp s.cause] } := by
  simp [finishRead, setMode, goto, emit]

/-- A poll that sees the exit level leaves, and does not ask the clock. -/
theorem poll_of_exit {exitLevel : Bool} {bound : Option Nat} {exit again : FsmWord} {s : State}
    (h : lineLevel s = exitLevel) : poll exitLevel bound exit again s = goto exit (sampled s) := by
  simp [poll, h]

/-- An unbounded poll that sees the stay level polls again. -/
theorem poll_of_stay {exitLevel : Bool} {exit again : FsmWord} {s : State} (h : lineLevel s ≠ exitLevel) :
    poll exitLevel none exit again s = goto again (sampled s) := by
  simp [poll, h]

/-- A bounded poll that sees the stay level asks the clock: a true answer fails the read, a false one polls again. -/
theorem poll_of_stay_bounded {exitLevel : Bool} {b : Nat} {exit again : FsmWord} {s : State}
    (h : lineLevel s ≠ exitLevel) :
    poll exitLevel (some b) exit again s =
      if clockAnswer b (sampled s) then raiseFailure Cause.transmissionHang (timeoutAsked b (sampled s))
      else goto again (timeoutAsked b (sampled s)) := by
  simp [poll, h]

/-- Everything one poll can do. -/
theorem poll_cases (exitLevel : Bool) (bound : Option Nat) (exit again : FsmWord) (s : State) :
    (lineLevel s = exitLevel ∧ poll exitLevel bound exit again s = goto exit (sampled s)) ∨
    (lineLevel s ≠ exitLevel ∧ bound = none ∧ poll exitLevel bound exit again s = goto again (sampled s)) ∨
    (∃ b, lineLevel s ≠ exitLevel ∧ bound = some b ∧ clockAnswer b (sampled s) = true ∧
      poll exitLevel bound exit again s = raiseFailure Cause.transmissionHang (timeoutAsked b (sampled s))) ∨
    (∃ b, lineLevel s ≠ exitLevel ∧ bound = some b ∧ clockAnswer b (sampled s) = false ∧
      poll exitLevel bound exit again s = goto again (timeoutAsked b (sampled s))) := by
  by_cases h : lineLevel s = exitLevel
  · exact .inl ⟨h, poll_of_exit h⟩
  · cases bound with
    | none => exact .inr (.inl ⟨h, rfl, poll_of_stay h⟩)
    | some b =>
      cases hc : clockAnswer b (sampled s)
      · exact .inr (.inr (.inr ⟨b, h, rfl, hc, by simp [poll_of_stay_bounded h, hc]⟩))
      · exact .inr (.inr (.inl ⟨b, h, rfl, hc, by simp [poll_of_stay_bounded h, hc]⟩))

/-- A reason added is there, and every reason already there stays. -/
theorem mem_addReason {q r : RefusalReason} {l : List RefusalReason} :
    q ∈ addReason r l ↔ q = r ∨ q ∈ l := by
  by_cases h : r ∈ l
  · simp only [addReason, h, if_true]
    exact ⟨.inr, fun hq => hq.elim (fun e => e ▸ h) id⟩
  · simp [addReason, h, or_comm]

@[simp] theorem busy_eq_false_iff (s : State) : busy s = false ↔ s.fsm = Fsm.idle := by
  simp [busy]

@[simp] theorem busy_eq_true_iff (s : State) : busy s = true ↔ s.fsm ≠ Fsm.idle := by
  simp [busy]

/-- Everything GET can do (R207). -/
theorem hostGet_cases (s : State) :
    (busy s = true ∧ hostGet s = .next (refuse .readWhileBusy s)) ∨
    (busy s = false ∧ resultsWritten s = true ∧ hostGet s = .next (latchPorts s)) ∨
    (busy s = false ∧ resultsWritten s = false ∧ hostGet s = .fault .readUnwritten) := by
  cases hb : busy s
  · cases hr : resultsWritten s
    · exact .inr (.inr ⟨rfl, rfl, by simp [hostGet, hb, hr]⟩)
    · exact .inr (.inl ⟨rfl, rfl, by simp [hostGet, hb, hr]⟩)
  · exact .inl ⟨rfl, by simp [hostGet, hb]⟩

/-- The next state of the last bit is DECODE exactly when the count is 40 (R152). -/
theorem afterBit_eq (c : CountWord) : afterBit c = if c.toNat = 40 then Fsm.decode else Fsm.bitWaitRise := rfl

end Sys2Proof.Machine
end

