-- ==== Sys2Proof/Laws/PerInstr.lean ====
section
/-! SUPPORT. Statements made of every row of the table. Family EncodedWord: the encoded word has the row's format, and its
code fits the format's width (spec/30_encoding.md rule R70). -/

namespace Sys2Proof.Laws.EncodedWord

/-- The encoded word is of the row's format and its code fits it. -/
def Statement (i : Instr) : Prop :=
  (encode i).format = i.format ∧ (encode i).code < 2 ^ i.format.width

theorem nop : Statement .nop := ⟨rfl, by decide⟩

theorem init : Statement .init := ⟨rfl, by decide⟩

theorem read : Statement .read := ⟨rfl, by decide⟩

theorem idle : Statement .idle := ⟨rfl, by decide⟩

theorem wakeLow : Statement .wakeLow := ⟨rfl, by decide⟩

theorem releaseHigh : Statement .releaseHigh := ⟨rfl, by decide⟩

theorem awaitAck0 : Statement .awaitAck0 := ⟨rfl, by decide⟩

theorem awaitAck1 : Statement .awaitAck1 := ⟨rfl, by decide⟩

theorem awaitAckEnd : Statement .awaitAckEnd := ⟨rfl, by decide⟩

theorem ready : Statement .ready := ⟨rfl, by decide⟩

theorem bitWaitRise : Statement .bitWaitRise := ⟨rfl, by decide⟩

theorem bitSample : Statement .bitSample := ⟨rfl, by decide⟩

theorem bitWaitFall : Statement .bitWaitFall := ⟨rfl, by decide⟩

theorem decode : Statement .decode := ⟨rfl, by decide⟩

theorem failed : Statement .failed := ⟨rfl, by decide⟩

theorem finalize : Statement .finalize := ⟨rfl, by decide⟩

theorem driveLow : Statement .driveLow := ⟨rfl, by decide⟩

theorem driveHighRelease (t : Nat) : Statement (.driveHighRelease t) := ⟨rfl, by simp [encode, CodeWord.code, Instr.format, Format.width]⟩

theorem release : Statement .release := ⟨rfl, by decide⟩

theorem sample : Statement .sample := ⟨rfl, by decide⟩

theorem idleHigh : Statement .idleHigh := ⟨rfl, by decide⟩

theorem delay (n : Nat) : Statement (.delay n) := ⟨rfl, by simp [encode, CodeWord.code, Instr.format, Format.width]⟩

theorem elapsed (b : Nat) : Statement (.elapsed b) := ⟨rfl, by simp [encode, CodeWord.code, Instr.format, Format.width]⟩

end Sys2Proof.Laws.EncodedWord
end

