-- ==== Sys2Proof/Laws/Step.lean ====
section
/-! SUPPORT. What a step can do, once: when it is stopped before any move, what it fetches, what each operation answers, and
the inversion of a step that answers a next state. -/

namespace Sys2Proof.Machine

section exec

variable (s : State)

@[simp] theorem exec_nop : exec .nop s = .next s := rfl

@[simp] theorem exec_idle : exec .idle s = .next s := rfl

@[simp] theorem exec_wakeLow : exec .wakeLow s = .next (goto Fsm.releaseHigh (delay s.cfg.tWake s)) := rfl

@[simp] theorem exec_releaseHigh :
    exec .releaseHigh s = .next (goto Fsm.awaitAck0 (driveHighRelease s.cfg.tRel s)) := rfl

@[simp] theorem exec_awaitAckEnd :
    exec .awaitAckEnd s = .next (poll false s.cfg.boundAckEnd Fsm.ready Fsm.awaitAckEnd s) := rfl

@[simp] theorem exec_ready : exec .ready s = .next (goto Fsm.bitWaitRise s) := rfl

@[simp] theorem exec_bitWaitRise :
    exec .bitWaitRise s = .next (poll true s.cfg.boundRise Fsm.bitSample Fsm.bitWaitRise s) := rfl

@[simp] theorem exec_bitWaitFall :
    exec .bitWaitFall s = .next (poll false s.cfg.boundFall (afterBit s.cnt) Fsm.bitWaitFall s) := rfl

@[simp] theorem exec_failed : exec .failed s = .next (goto Fsm.finalize (writeResults 0#16 0#16 s)) := rfl

@[simp] theorem exec_finalize : exec .finalize s = .next (finishRead s) := rfl

@[simp] theorem exec_driveLow : exec .driveLow s = .next (setMode .drivingLow s) := rfl

@[simp] theorem exec_driveHighRelease (t : Nat) :
    exec (.driveHighRelease t) s = .next (driveHighRelease t s) := rfl

@[simp] theorem exec_release : exec .release s = .next (setMode .listening s) := rfl

@[simp] theorem exec_sample : exec .sample s = .next (sampled s) := rfl

@[simp] theorem exec_idleHigh : exec .idleHigh s = .next (setMode .idle s) := rfl

@[simp] theorem exec_delay (n : Nat) : exec (.delay n) s = .next (delay n s) := rfl

@[simp] theorem exec_elapsed (b : Nat) : exec (.elapsed b) s = .next (timeoutAsked b s) := rfl

theorem exec_init_of_busy (h : busy s = true) : exec .init s = .next (refuse .commandWhileBusy s) := by
  simp only [exec, execInit, h, if_true]

theorem exec_init_of_idle (h : busy s = false) :
    exec .init s = .next (setMode .idle (bindLine (emit (.cmd .init) s))) := by
  simp [exec, execInit, h]

theorem exec_read_of_busy (h : busy s = true) : exec .read s = .next (refuse .commandWhileBusy s) := by
  simp only [exec, execRead, h, if_true]

theorem exec_read_of_unbound (h : busy s = false) (hb : s.bound = false) :
    exec .read s = .next (refuse .readBeforeInit s) := by
  simp [exec, execRead, h, hb]

theorem exec_read_of_ready (h : busy s = false) (hb : s.bound = true) :
    exec .read s = .next (goto Fsm.wakeLow
      (setMode .drivingLow (writeCause Cause.ok (clearFrame (emit (.cmd .read) s))))) := by
  simp [exec, execRead, h, hb]

theorem exec_awaitAck0_of_high (h : lineLevel (delay s.cfg.tAck0 s) = true) :
    exec .awaitAck0 s = .next (raiseFailure Cause.handshakeNoResponse (sampled (delay s.cfg.tAck0 s))) := by
  simp [exec, execAwaitAck0, h]

theorem exec_awaitAck0_of_low (h : lineLevel (delay s.cfg.tAck0 s) = false) :
    exec .awaitAck0 s = .next (goto Fsm.awaitAck1 (sampled (delay s.cfg.tAck0 s))) := by
  simp [exec, execAwaitAck0, h]

theorem exec_awaitAck1_of_high (h : lineLevel (delay s.cfg.tAck1 s) = true) :
    exec .awaitAck1 s = .next (goto Fsm.awaitAckEnd (sampled (delay s.cfg.tAck1 s))) := by
  simp [exec, execAwaitAck1, h]

theorem exec_awaitAck1_of_low (h : lineLevel (delay s.cfg.tAck1 s) = false) :
    exec .awaitAck1 s = .next (raiseFailure Cause.handshakeAckMissing (sampled (delay s.cfg.tAck1 s))) := by
  simp [exec, execAwaitAck1, h]

theorem exec_bitSample_of_one (h : lineLevel (delay s.cfg.tBit s) = true) :
    exec .bitSample s = .next (goto Fsm.bitWaitFall (shiftIn true (sampled (delay s.cfg.tBit s)))) := by
  simp [exec, execBitSample, h]

theorem exec_bitSample_of_zero (h : lineLevel (delay s.cfg.tBit s) = false) :
    exec .bitSample s =
      .next (goto (afterBit (s.cnt + 1#6)) (shiftIn false (sampled (delay s.cfg.tBit s)))) := by
  simp [exec, execBitSample, h]

theorem exec_decode_of_mismatch (h : s.cfg.verifyChecksum = true) (hc : checksumOk s.sr = false) :
    exec .decode s = .next (raiseFailure Cause.checksumMismatch s) := by
  simp [exec, execDecode, h, hc]

theorem exec_decode_of_accepted (h : s.cfg.verifyChecksum = false ∨ checksumOk s.sr = true) :
    exec .decode s = .next (goto Fsm.finalize
      (writeResults (humidityField s.sr) (temperatureWord (temperatureField s.sr)) s)) := by
  rcases h with h | h <;> simp [exec, execDecode, h]

/-- No operation of the table stops the machine by itself. -/
theorem exec_answers_next (i : Instr) : ∃ t, exec i s = .next t := by
  cases i <;> exact ⟨_, rfl⟩

end exec

/-- A step takes its move exactly when nothing stops it before. -/
theorem standingStop_eq_none_iff (s : State) :
    standingStop s = none ↔
      s.faultMark = none ∧ s.cfg.legal = true ∧ s.fsm.toNat ≤ 12 ∧
        (s.causeWritten = true → s.cause.toNat ≤ 4) := by
  have hd : ∀ f : FsmWord, (decodeState f).isNone = decide (12 < f.toNat) := by decide
  unfold standingStop
  cases s.faultMark with
  | some r => simp
  | none =>
    simp only [hd, reservedCause]
    by_cases hl : s.cfg.legal = true
    · by_cases hf : s.fsm.toNat ≤ 12
      · cases s.causeWritten <;> simp [hl, hf, Nat.not_lt.mpr hf]
        omega
      · have : 12 < s.fsm.toNat := by omega
        simp [hl, hf, this]
    · simp [hl]

/-- With nothing standing, a step is its move. -/
theorem step_eq_runMove {s : State} (h : standingStop s = none) : step s = runMove (fetch s).1 (fetch s).2 := by
  simp [step, h]

/-- What stops a step before its move is no next state. -/
theorem standingStop_ne_next (s t : State) : standingStop s ≠ some (.next t) := by
  unfold standingStop
  cases s.faultMark <;> simp
  split_ifs <;> simp

/-- A step that answers a next state was not stopped before its move. -/
theorem standingStop_of_next {s t : State} (h : step s = .next t) : standingStop s = none := by
  unfold step at h
  split at h
  · rename_i o ho
    exact absurd (h ▸ ho) (standingStop_ne_next s t)
  · assumption

/-- Fetching takes at most the turn in front. -/
theorem fetch_state (s : State) :
    (fetch s).2 = s ∨ ∃ turn rest, s.agenda = turn :: rest ∧ (fetch s).2 = endTurn rest s := by
  unfold fetch
  split
  case h_1 => exact .inl rfl
  case h_5 h =>
    cases hb : busy s
    · exact .inr ⟨_, _, h, by simp⟩
    · exact .inl (by simp)
  all_goals exact .inr ⟨_, _, by assumption, rfl⟩

/-- What a fetch can give: the block's state code, a command, GET, or a bare primitive. -/
theorem fetch_move (s : State) :
    (fetch s).1 = .word (.ustate s.fsm) ∨ (∃ w, (fetch s).1 = .word (.cmd w)) ∨ (fetch s).1 = .get ∨
      ∃ w n, (fetch s).1 = .word (.prim w n) ∧ Turn.primitive w n ∈ s.agenda := by
  unfold fetch
  split
  case h_5 => cases hb : busy s <;> simp
  case h_6 w n rest h => exact .inr (.inr (.inr ⟨w, n, rfl, by simp [h]⟩))
  all_goals simp

/-- Everything a step that answers a next state can have done. -/
theorem step_cases {s t : State} (h : step s = .next t) :
    standingStop s = none ∧
    ((∃ w i, (fetch s).1 = .word w ∧ decode w = some i ∧ exec i (fetch s).2 = .next t) ∨
     (∃ w, (fetch s).1 = .word (.cmd w) ∧ decode (.cmd w) = none ∧
        t = refuse .reservedCommand (fetch s).2) ∨
     ((fetch s).1 = .get ∧ busy (fetch s).2 = true ∧ t = refuse .readWhileBusy (fetch s).2) ∨
     ((fetch s).1 = .get ∧ busy (fetch s).2 = false ∧ resultsWritten (fetch s).2 = true ∧
        t = latchPorts (fetch s).2)) := by
  have hs := standingStop_of_next h
  refine ⟨hs, ?_⟩
  rw [step_eq_runMove hs] at h
  cases hm : (fetch s).1 with
  | get =>
    rw [hm] at h
    rcases hostGet_cases (fetch s).2 with ⟨hb, hg⟩ | ⟨hb, hr, hg⟩ | ⟨hb, hr, hg⟩ <;>
      simp only [runMove, hg] at h
    · exact .inr (.inr (.inl ⟨rfl, hb, by injection h with h; exact h.symm⟩))
    · exact .inr (.inr (.inr ⟨rfl, hb, hr, by injection h with h; exact h.symm⟩))
    · cases h
  | word w =>
    rw [hm] at h
    cases hd : decode w with
    | some i => exact .inl ⟨w, i, rfl, hd, by simpa [runMove, hd] using h⟩
    | none =>
      cases w <;> simp only [runMove, hd, reservedWord] at h
      · exact .inr (.inl ⟨_, rfl, hd, by injection h with h; exact h.symm⟩)
      · cases h
      · cases h

end Sys2Proof.Machine
end

