-- ==== Sys2Proof/Laws/Safety.lean ====
section
/-! SUPPORT. What the host's scheduling of further turns can do to the notions of Safety.lean: it stops nothing and keeps the
invariants; and when the next move is the block's. -/

namespace Sys2Proof.Machine

@[simp] theorem standingStop_schedule (turns : List Turn) (s : State) :
    standingStop (schedule turns s) = standingStop s := rfl

@[simp] theorem busy_schedule (turns : List Turn) (s : State) : busy (schedule turns s) = busy s := rfl

@[simp] theorem schedule_nil (s : State) : schedule [] s = s := by simp [schedule]

@[simp] theorem newEvents_schedule (turns : List Turn) (s t : State) :
    newEvents (schedule turns s) t = newEvents s t := rfl

theorem StateInvariant.schedule {turns : List Turn} {s : State} (h : StateInvariant s)
    (ht : ∀ w n, Turn.primitive w n ∉ turns) : StateInvariant (schedule turns s) :=
  { h with primitiveFree := fun w n hm => (List.mem_append.mp hm).elim (h.primitiveFree w n) (ht w n) }

theorem blockMoves_of_nil {s : State} (h : s.agenda = []) : BlockMoves s := by simp [BlockMoves, fetch, h]

/-- A waiting host lets the block move while a read goes on. -/
theorem blockMoves_of_waitDone {s : State} {rest : List Turn} (h : s.agenda = .waitDone :: rest)
    (hb : busy s = true) : BlockMoves s := by simp [BlockMoves, fetch, h, hb]

end Sys2Proof.Machine
end

