-- ==== Sys2Proof/Machine/HostProgram.lean ====
section
/-! DEFINITION. The host's program text and its pseudo-operations (spec/30_encoding.md rules R81, R82). -/

namespace Sys2Proof.Machine

/-- One line of a host program (R81, R82). -/
inductive HostStatement where
  | nop
  | init
  | read
  | get
  | waitDone
  | readFrame
  | initializePseudo
  deriving DecidableEq, Repr

/-- The host turns a statement stands for: READFRAME is `READ; WAITDONE; GET`, INITIALIZE is `INIT` (R82). -/
def HostStatement.turns : HostStatement → List Turn
  | .nop => [.command 0b00#2]
  | .init => [.command 0b01#2]
  | .read => [.command 0b10#2]
  | .get => [.get]
  | .waitDone => [.waitDone]
  | .readFrame => [.command 0b10#2, .waitDone, .get]
  | .initializePseudo => [.command 0b01#2]

/-- The turns of a host program. -/
def hostTurns (p : List HostStatement) : List Turn := p.flatMap HostStatement.turns

/-- White space within a line. -/
def isBlank (c : Char) : Bool := c = ' ' || c = '\t' || c = '\r'

/-- The text of a line: its comment, from `;` on, and the blanks around it left out (R81). -/
def lineText (l : List Char) : List Char :=
  (((l.takeWhile fun c => c ≠ ';').dropWhile isBlank).reverse.dropWhile isBlank).reverse

/-- The lines of a text. -/
def textLines : List Char → List (List Char)
  | [] => [[]]
  | c :: cs =>
    if c = '\n' then [] :: textLines cs
    else
      match textLines cs with
      | [] => [[c]]
      | l :: ls => (c :: l) :: ls

/-- The statements of one line: none for an empty line, an error for an unknown word. -/
def assembleLine (l : List Char) : Option (List HostStatement) :=
  let w := lineText l
  if w = [] then some []
  else if w = ['N', 'O', 'P'] then some [.nop]
  else if w = ['I', 'N', 'I', 'T'] then some [.init]
  else if w = ['R', 'E', 'A', 'D'] then some [.read]
  else if w = ['G', 'E', 'T'] then some [.get]
  else if w = ['W', 'A', 'I', 'T', 'D', 'O', 'N', 'E'] then some [.waitDone]
  else if w = ['R', 'E', 'A', 'D', 'F', 'R', 'A', 'M', 'E'] then some [.readFrame]
  else if w = ['I', 'N', 'I', 'T', 'I', 'A', 'L', 'I', 'Z', 'E'] then some [.initializePseudo]
  else none

/-- Assemble every line, failing on the first unknown word. -/
def assembleLines : List (List Char) → Option (List HostStatement)
  | [] => some []
  | l :: ls =>
    match assembleLine l, assembleLines ls with
    | some a, some b => some (a ++ b)
    | _, _ => none

/-- The turns a host program's text assembles to (R81). -/
def assemble (text : List Char) : Option (List Turn) := (assembleLines (textLines text)).map hostTurns

end Sys2Proof.Machine
end

