-- ==== Sys2Proof/Tests/Slice0.lean ====
section
/-! SUPPORT. The tests. Expected results are those of spec/95_test_vectors.md (a test's comment names the vector `V<n>` or
program `P<n>`) and of the tables of spec/30_encoding.md; section 5 gives each obligation with hypotheses a state and
operands that meet them. -/

namespace Sys2Proof.Tests

open Sys2Proof Sys2Proof.Machine

/-! ### Helpers -/

/-- The default parameters, with numbers for what the spec leaves open. -/
def config : Config := { Config.reference with clockWidth := 14, lineId := 0, clockId := 0 }

/-- The default parameters with every wait bounded (P5). -/
def boundedConfig : Config :=
  { config with boundAckEnd := some 200, boundRise := some 200, boundFall := some 200 }

/-- After reset. -/
def afterReset : State := State.resetWith config ResetDraw.zero

/-- After INIT (V70). -/
def afterInit : State := { afterReset with bound := true }

/-- In state `f` of a read, listening, with the line's answers. -/
def inRead (f : FsmWord) (line : List Bool) : State :=
  { afterInit with fsm := f, mode := .listening, causeWritten := true, lineIn := line }

/-- The same, with bounded waits and the clock's answers. -/
def inBoundedRead (f : FsmWord) (line clock : List Bool) : State :=
  { inRead f line with cfg := boundedConfig, clockIn := clock }

/-- Just after an accepted READ (V72). -/
def atWake (line : List Bool) : State :=
  { afterInit with fsm := Fsm.wakeLow, mode := .drivingLow, causeWritten := true, lineIn := line }

/-- After a completed read of Scenario B (P1). -/
def afterRead : State :=
  { afterInit with
    sr := 0x01F400C8BC#40
    cnt := 40#6
    rh := 0x01F4#16
    rhWritten := true
    temp := 0x00C8#16
    tempWritten := true
    causeWritten := true }

/-- The next state, if there is one. -/
def answer : Host.Outcome State Fault Refusal → Option State
  | .next t => some t
  | .fault _ => none
  | .refused _ => none

/-- The state entered, the cause and the events of an answer from `s`. -/
def outcome (s : State) (o : Host.Outcome State Fault Refusal) : Option (FsmWord × CauseWord × List Event) :=
  (answer o).map fun t => (t.fsm, t.cause, newEvents s t)

/-- The mode and the events of an answer from `s`. -/
def lineOutcome (s : State) (o : Host.Outcome State Fault Refusal) : Option (LineState × List Event) :=
  (answer o).map fun t => (t.mode, newEvents s t)

/-- Forty answered bits of a frame, with one poll of the stay level in each wait (`K = 1`). -/
def scenarioB : List BitAnswers := canonicalBits 0x01F400C8BC#40 1

/-! ### 1. Well-formed operands: each check refuses an ill-formed term -/

theorem test_wellFormed_accepts_delay : wellFormed config (.delay 10000) = true := by decide

theorem test_wellFormed_refuses_delay : wellFormed config (.delay 41) = false := by decide

theorem test_wellFormed_accepts_pulse : wellFormed config (.driveHighRelease 30) = true := by decide

theorem test_wellFormed_refuses_other_pulse : wellFormed config (.driveHighRelease 31) = false := by decide

theorem test_wellFormed_refuses_short_pulse :
    wellFormed { config with tRel := 19 } (.driveHighRelease 19) = false := by decide

theorem test_wellFormed_refuses_long_pulse :
    wellFormed { config with tRel := 41 } (.driveHighRelease 41) = false := by decide

theorem test_wellFormed_accepts_bound : wellFormed boundedConfig (.elapsed 200) = true := by decide

theorem test_wellFormed_refuses_unbounded : wellFormed config (.elapsed 200) = false := by decide

theorem test_wellFormed_refuses_zero_bound :
    wellFormed { config with boundRise := some 0 } (.elapsed 0) = false := by decide

/-! ### 2. Encodings: the words of R71, R72, R74, written out from the tables -/

theorem test_decode_commands :
    decode (.cmd 0b00#2) = some .nop ∧ decode (.cmd 0b01#2) = some .init ∧ decode (.cmd 0b10#2) = some .read ∧
    decode (.cmd 0b11#2) = none := by decide

theorem test_decode_handshake_states :
    decode (.ustate 0b0000#4) = some .idle ∧ decode (.ustate 0b0001#4) = some .wakeLow ∧
    decode (.ustate 0b0010#4) = some .releaseHigh ∧ decode (.ustate 0b0011#4) = some .awaitAck0 ∧
    decode (.ustate 0b0100#4) = some .awaitAck1 ∧ decode (.ustate 0b0101#4) = some .awaitAckEnd ∧
    decode (.ustate 0b0110#4) = some .ready := by decide

theorem test_decode_bit_and_frame_states :
    decode (.ustate 0b0111#4) = some .bitWaitRise ∧ decode (.ustate 0b1000#4) = some .bitSample ∧
    decode (.ustate 0b1001#4) = some .bitWaitFall ∧ decode (.ustate 0b1010#4) = some .decode ∧
    decode (.ustate 0b1011#4) = some .failed ∧ decode (.ustate 0b1100#4) = some .finalize ∧
    decode (.ustate 0b1101#4) = none ∧ decode (.ustate 0b1110#4) = none ∧ decode (.ustate 0b1111#4) = none := by
  decide

theorem test_decode_primitives :
    decode (.prim 0b000#3 0) = some .driveLow ∧ decode (.prim 0b001#3 30) = some (.driveHighRelease 30) ∧
    decode (.prim 0b010#3 0) = some .release ∧ decode (.prim 0b011#3 0) = some .sample ∧
    decode (.prim 0b100#3 0) = some .idleHigh ∧ decode (.prim 0b101#3 40) = some (.delay 40) ∧
    decode (.prim 0b110#3 200) = some (.elapsed 200) ∧ decode (.prim 0b111#3 0) = none := by decide

theorem test_table_words :
    decodeTableWord 2 0b10 = some .read ∧ decodeTableWord 3 0b100 = some .idleHigh ∧
    decodeTableWord 4 0b1010 = some .decode ∧ decodeTableWord 4 0b1101 = none := by decide

/-- R73. -/
theorem test_pad_view :
    padDrive .idle = some true ∧ padDrive .drivingLow = some false ∧ padDrive .drivingHigh = some true ∧
    padDrive .listening = none := by decide

/-- R79, item I1. -/
theorem test_reserved_state_faults : step { afterInit with fsm := 0b1101#4 } = .fault .illegalState := rfl

/-- R79, item I4. -/
theorem test_reserved_cause_faults : step { afterRead with cause := 0b101#3 } = .fault .reservedCause := rfl

/-- R79, item I3. -/
theorem test_reserved_primitive_faults :
    step { afterInit with agenda := [.primitive 0b111#3 0] } = .fault .reservedPrimitive := rfl

/-! ### 3. Operations -/

/-- V76. -/
theorem test_nop : outcome afterInit (exec .nop afterInit) = some (Fsm.idle, 0#3, []) := by decide

/-- V70. -/
theorem test_init : (answer (exec .init afterReset)).map (fun t => (t.bound, t.mode, t.hist)) =
    some (true, .idle, [.cmd .init, .mode .idle]) := by decide

/-- V74. -/
theorem test_init_while_busy : (answer (exec .init (atWake []))).map (fun t => (t.refusalMark, t.fsm, t.hist)) =
    some ([.commandWhileBusy], Fsm.wakeLow, []) := by decide

/-- V72. -/
theorem test_read : (answer (exec .read afterRead)).map (fun t => (t.fsm, busy t, t.sr, t.cnt, t.cause, t.mode)) =
    some (Fsm.wakeLow, true, 0#40, 0#6, 0#3, .drivingLow) := by decide

/-- V69. -/
theorem test_read_before_init : (answer (exec .read afterReset)).map (fun t => (t.refusalMark, t.fsm, t.hist)) =
    some ([.readBeforeInit], Fsm.idle, []) := by decide

/-- V75. -/
theorem test_reserved_command :
    (answer (step { afterInit with agenda := [.command 0b11#2] })).map (fun t => (t.refusalMark, t.hist)) =
      some ([.reservedCommand], []) := by decide

/-- V77. -/
theorem test_get_unwritten : step { afterInit with agenda := [.get] } = .fault .readUnwritten := rfl

/-- V79, P1. -/
theorem test_get : (answer (step { afterRead with agenda := [.get] })).map State.hostGot =
    some (some ⟨0x01F4#16, 0x00C8#16, 0b000#3⟩) := by decide

/-- R121. -/
theorem test_idle : outcome afterInit (exec .idle afterInit) = some (Fsm.idle, 0#3, []) := by decide

/-- V10. -/
theorem test_wakeLow : outcome (atWake []) (exec .wakeLow (atWake [])) =
    some (Fsm.releaseHigh, 0#3, [.delay 10000]) := by decide

/-- V11. -/
theorem test_releaseHigh : outcome (atWake []) (exec .releaseHigh (atWake [])) =
    some (Fsm.awaitAck0, 0#3, [.mode .drivingHigh, .delay 30, .mode .listening]) := by decide

/-- V12. -/
theorem test_awaitAck0_high : outcome (inRead Fsm.awaitAck0 [true]) (exec .awaitAck0 (inRead Fsm.awaitAck0 [true])) =
    some (Fsm.failed, 0b001#3, [.delay 40, .sample true]) := by decide

/-- V13. -/
theorem test_awaitAck0_low : outcome (inRead Fsm.awaitAck0 [false]) (exec .awaitAck0 (inRead Fsm.awaitAck0 [false])) =
    some (Fsm.awaitAck1, 0b000#3, [.delay 40, .sample false]) := by decide

/-- V14. -/
theorem test_awaitAck1_low : outcome (inRead Fsm.awaitAck1 [false]) (exec .awaitAck1 (inRead Fsm.awaitAck1 [false])) =
    some (Fsm.failed, 0b010#3, [.delay 80, .sample false]) := by decide

/-- V15. -/
theorem test_awaitAck1_high : outcome (inRead Fsm.awaitAck1 [true]) (exec .awaitAck1 (inRead Fsm.awaitAck1 [true])) =
    some (Fsm.awaitAckEnd, 0b000#3, [.delay 80, .sample true]) := by decide

/-- V16, V19. -/
theorem test_awaitAckEnd_low :
    outcome (inBoundedRead Fsm.awaitAckEnd [false] [true])
        (exec .awaitAckEnd (inBoundedRead Fsm.awaitAckEnd [false] [true])) =
      some (Fsm.ready, 0b000#3, [.sample false]) := by decide

/-- V18. -/
theorem test_awaitAckEnd_timeout :
    outcome (inBoundedRead Fsm.awaitAckEnd [true] [true])
        (exec .awaitAckEnd (inBoundedRead Fsm.awaitAckEnd [true] [true])) =
      some (Fsm.failed, 0b011#3, [.sample true, .elapsed true]) := by decide

/-- V20. -/
theorem test_ready : outcome (inRead Fsm.ready []) (exec .ready (inRead Fsm.ready [])) =
    some (Fsm.bitWaitRise, 0b000#3, []) := by decide

/-- V23. -/
theorem test_bitWaitRise_high :
    outcome (inRead Fsm.bitWaitRise [true]) (exec .bitWaitRise (inRead Fsm.bitWaitRise [true])) =
      some (Fsm.bitSample, 0b000#3, [.sample true]) := by decide

/-- V32. -/
theorem test_bitWaitRise_polls :
    outcome (inBoundedRead Fsm.bitWaitRise [false] [false])
        (exec .bitWaitRise (inBoundedRead Fsm.bitWaitRise [false] [false])) =
      some (Fsm.bitWaitRise, 0b000#3, [.sample false, .elapsed false]) := by decide

/-- V26. -/
theorem test_bitSample_last_zero :
    (answer (exec .bitSample { inRead Fsm.bitSample [false] with sr := 0x00FA00645E#40, cnt := 39#6 })).map
        (fun t => (t.sr, t.cnt, t.fsm)) = some (0x01F400C8BC#40, 40#6, Fsm.decode) := by decide

/-- V27. -/
theorem test_bitSample_last_one :
    (answer (exec .bitSample { inRead Fsm.bitSample [true] with sr := 0x7FFFFFFFFF#40, cnt := 39#6 })).map
        (fun t => (t.sr, t.cnt, t.fsm)) = some (0xFFFFFFFFFF#40, 40#6, Fsm.bitWaitFall) := by decide

/-- V28, V29. -/
theorem test_bitWaitFall_low :
    (answer (exec .bitWaitFall { inRead Fsm.bitWaitFall [false] with cnt := 40#6 })).map State.fsm = some Fsm.decode ∧
    (answer (exec .bitWaitFall { inRead Fsm.bitWaitFall [false] with cnt := 12#6 })).map State.fsm =
      some Fsm.bitWaitRise := by decide

/-- V31. -/
theorem test_bitWaitFall_timeout :
    outcome (inBoundedRead Fsm.bitWaitFall [true] [true])
        (exec .bitWaitFall (inBoundedRead Fsm.bitWaitFall [true] [true])) =
      some (Fsm.failed, 0b011#3, [.sample true, .elapsed true]) := by decide

/-- V66. -/
theorem test_decode : (answer (exec .decode { inRead Fsm.decode [] with sr := 0xFFFFFFFFFF#40 })).map
    (fun t => (t.rh, t.temp, t.fsm)) = some (0xFFFF#16, 0x8001#16, Fsm.finalize) := by decide

/-- V63. -/
theorem test_decode_mismatch :
    (answer (exec .decode { inRead Fsm.decode [] with
        cfg := { config with verifyChecksum := true }, sr := 0x01F400C8BC#40 })).map
      (fun t => (t.cause, t.fsm, t.rhWritten)) = some (0b100#3, Fsm.failed, false) := by decide

/-- V67. -/
theorem test_failed :
    (answer (exec .failed { inRead Fsm.failed [] with cause := 0b010#3, rh := 7#16, temp := 9#16 })).map
        (fun t => (t.rh, t.temp, t.cause, t.fsm, t.rhWritten && t.tempWritten)) =
      some (0#16, 0#16, 0b010#3, Fsm.finalize, true) := by decide

/-- V68. -/
theorem test_finalize :
    lineOutcome { inRead Fsm.finalize [] with rh := 0x01F4#16, temp := 0x00C8#16 }
        (exec .finalize { inRead Fsm.finalize [] with rh := 0x01F4#16, temp := 0x00C8#16 }) =
      some (.idle, [.mode .idle, .done 0x01F4#16 0x00C8#16 0b000#3]) := by decide

/-- V1. -/
theorem test_driveLow : lineOutcome (inRead Fsm.ready []) (exec .driveLow (inRead Fsm.ready [])) =
    some (.drivingLow, [.mode .drivingLow]) := by decide

/-- V2. -/
theorem test_driveHighRelease : lineOutcome (atWake []) (exec (.driveHighRelease 30) (atWake [])) =
    some (.listening, [.mode .drivingHigh, .delay 30, .mode .listening]) := by decide

/-- V3. -/
theorem test_release : lineOutcome (atWake []) (exec .release (atWake [])) =
    some (.listening, [.mode .listening]) := by decide

/-- V4. -/
theorem test_sample : lineOutcome (inRead Fsm.ready [true]) (exec .sample (inRead Fsm.ready [true])) =
    some (.listening, [.sample true]) := by decide

/-- V5. -/
theorem test_idleHigh : lineOutcome (inRead Fsm.ready []) (exec .idleHigh (inRead Fsm.ready [])) =
    some (.idle, [.mode .idle]) := by decide

/-- V6. -/
theorem test_delay : lineOutcome (inRead Fsm.ready []) (exec (.delay 80) (inRead Fsm.ready [])) =
    some (.listening, [.delay 80]) := by decide

/-- V7. -/
theorem test_elapsed :
    lineOutcome (inBoundedRead Fsm.ready [] [false]) (exec (.elapsed 200) (inBoundedRead Fsm.ready [] [false])) =
      some (.listening, [.elapsed false]) := by decide

/-- V36 to V43. -/
theorem test_signMagnitude :
    signMagnitude 0x7FFE#16 = 32766 ∧ signMagnitude 0x8000#16 = 0 ∧ signMagnitude 0x8001#16 = -1 ∧
    temperatureWord 0x8065#16 = 0xFF9B#16 ∧ temperatureWord 0x80C8#16 = 0xFF38#16 ∧
    signMagnitude 0xFF38#16 = -32568 := by decide

/-- V54 to V60. -/
theorem test_shift_and_checksum :
    shift40 0x8000000000#40 false = 0#40 ∧ shift40 0x00FA00645E#40 false = 0x01F400C8BC#40 ∧
    checksum 0x01F400C8BC#40 = 0xBD ∧ checksumOk 0x028C806573#40 = true ∧ checksumOk 0xFFFFFFFFFC#40 = true := by
  decide

/-! ### 4. The step, reset and the host's program text -/

theorem test_reset_configuration_legal : State.reset.cfg.legal = true := by decide

/-- A placed table row runs first after reset. -/
theorem test_withFetchWord_runs :
    (answer (step (State.reset.withFetchWord 2 0b01))).map (fun t => (t.bound, t.hist)) =
      some (true, [.cmd .init, .mode .idle]) := by decide

/-- R82: a waiting host lets the block move. -/
theorem test_waitDone :
    (answer (step { atWake [] with agenda := [.waitDone, .get] })).map (fun t => (t.fsm, t.agenda)) =
      some (Fsm.releaseHigh, [.waitDone, .get]) := by decide

/-- P1's program text (R81). -/
theorem test_assemble :
    assemble ['I', 'N', 'I', 'T', ' ', ';', '0', '1', '\n', ' ', 'R', 'E', 'A', 'D', '\n', '\n', 'G', 'E', 'T'] =
      some [.command 0b01#2, .command 0b10#2, .get] := by decide

/-- R65: a read that has not ended is observed as such. -/
theorem test_observe :
    (observe { atWake [] with hist := [.cmd .init, .cmd .read, .mode .drivingLow] }) =
      ⟨[.cmd .read, .mode .drivingLow], ⟨0#16, 0#16, 0#3⟩, false⟩ := by decide

/-- R74, R81. -/
theorem test_traces :
    showTrace [Fsm.ready, Fsm.bitWaitRise, Fsm.bitWaitRise] = ["READY", "BIT_WAIT_RISE x2"] ∧
    Event.primitiveCode (.sample true) = some 0b011#3 := by decide

/-- R109, item I13. -/
theorem test_shared_line_refused : Config.legalSystem [config, { config with clockId := 1 }] = false := by decide

/-- R109, R234: the clock too belongs to one instance. -/
theorem test_shared_clock_refused : Config.legalSystem [config, { config with lineId := 1 }] = false := by decide

/-- R121, R81: INIT and the idle block add nothing to a trace. -/
theorem test_trace_without_idle :
    stateTrace 3 { afterReset with agenda := [.command 0b01#2] } = [] ∧ stateTrace 1 (atWake []) = [Fsm.wakeLow] := by
  decide

/-- R102: 14 bits conform with the default wake time, 13 do not. -/
theorem test_clock_width :
    Config.clockConforms config = true ∧ Config.clockConforms { config with clockWidth := 13 } = false := by decide

/-! ### 5. Witnesses: states and operands that meet the hypotheses of the obligations -/

/-- Nothing stops the states used below. -/
theorem witness_nothing_stops :
    standingStop afterReset = none ∧ standingStop afterRead = none ∧ standingStop (atWake []) = none ∧
    standingStop (inRead Fsm.awaitAckEnd []) = none ∧ standingStop (inBoundedRead Fsm.bitWaitFall [] []) = none := by
  decide

theorem witness_PlacedTableWordRunsItsRow : standingStop State.reset = none := by decide

theorem witness_ReservedCodesSpellNothing :
    (∃ s : State, s.faultMark = none ∧ s.cfg.legal = true ∧ s.fsm.toNat = 13) ∧
    (∃ s : State, s.faultMark = none ∧ s.cfg.legal = true ∧ s.fsm.toNat = 12 ∧ s.causeWritten = true ∧
      s.cause.toNat = 5) :=
  ⟨⟨{ afterInit with fsm := 0b1101#4 }, by decide⟩, ⟨{ inRead Fsm.finalize [] with cause := 0b101#3 }, by decide⟩⟩

theorem witness_StepRunsTheDecodedWord :
    (fetch (atWake [])).1 = .word (.ustate 0b0001#4) ∧ decode (.ustate 0b0001#4) = some .wakeLow ∧
    standingStop (atWake []) = none := by decide

theorem witness_OneAgentMovesAtEachStep :
    standingStop { afterInit with agenda := [.block] } = none ∧
    standingStop { afterInit with agenda := [.command 0b11#2, .get] } = none ∧
    standingStop { afterInit with agenda := [.get] } = none ∧
    standingStop { afterInit with agenda := [.waitDone] } = none ∧ afterInit.agenda = [] ∧ afterInit.fsm = Fsm.idle ∧
    standingStop { atWake [] with agenda := [.waitDone] } = none ∧ (atWake []).fsm ≠ Fsm.idle ∧
    (atWake []).agenda = [] := by decide

theorem witness_IllegalConfigurationIsRefused :
    ({ config with tWake := 10000, tRel := 20 } : Config).legal = true ∧
    ({ config with tRel := 40, boundFall := some 1 } : Config).legal = true ∧
    ({ config with tWake := 9999 } : Config).legal = false ∧ ({ config with tRel := 19 } : Config).legal = false ∧
    ({ config with tRel := 41 } : Config).legal = false ∧
    ({ config with boundAckEnd := some 0 } : Config).legal = false ∧
    Config.legalSystem [config, { config with lineId := 1, clockId := 1 }] = true ∧
    ({ afterInit with cfg := { config with tWake := 9999 } } : State).faultMark = none := by decide

theorem witness_commands :
    (atWake []).fsm ≠ Fsm.idle ∧ (afterReset.fsm = Fsm.idle ∧ afterReset.bound = false) ∧
    (afterInit.fsm = Fsm.idle ∧ afterInit.bound = true) ∧ busy afterReset = false := by decide

theorem witness_ReservedCommandIsRefused :
    standingStop { atWake [] with agenda := [.command 0b11#2] } = none ∧
    standingStop { afterReset with agenda := [.command 0b11#2] } = none := by decide

theorem witness_GetReturnsThePorts :
    (standingStop { atWake [] with agenda := [.get] } = none ∧ (atWake []).fsm ≠ Fsm.idle) ∧
    (standingStop { afterInit with agenda := [.get] } = none ∧ afterInit.fsm = Fsm.idle ∧
      afterInit.causeWritten = false) ∧
    (standingStop { afterRead with agenda := [.get] } = none ∧ afterRead.fsm = Fsm.idle ∧
      afterRead.rhWritten = true ∧ afterRead.tempWritten = true ∧ afterRead.causeWritten = true) := by decide

theorem witness_NoHostMoveDisturbsARead :
    standingStop { atWake [] with agenda := [.get] } = none ∧
    standingStop { atWake [] with agenda := [.command 0b00#2] } = none ∧
    standingStop { atWake [] with agenda := [.command 0b01#2] } = none ∧
    standingStop { atWake [] with agenda := [.command 0b10#2] } = none ∧
    standingStop { atWake [] with agenda := [.command 0b11#2] } = none ∧ (atWake []).fsm ≠ Fsm.idle := by decide

theorem witness_answers :
    (inRead Fsm.awaitAck0 [true]).lineIn = [true] ∧ afterInit.lineIn = [] ∧ afterInit.clockIn = [] ∧
    (inBoundedRead Fsm.bitWaitRise [] [false]).clockIn = [false] := by decide

theorem witness_ClockSubtractionSurvivesWrap : 2 ^ 14 - 1 < 2 ^ 14 ∧ elapsedTicks 14 5 16383 = 6 := by decide

theorem witness_AwaitAck0ChecksForLow :
    lineLevel { inRead Fsm.awaitAck0 [true] with hist := [.delay 40] } = true ∧
    lineLevel { inRead Fsm.awaitAck0 [false] with hist := [.delay 40] } = false := by decide

theorem witness_AwaitAck1ChecksForHigh :
    lineLevel { inRead Fsm.awaitAck1 [false] with hist := [.delay 80] } = false ∧
    lineLevel { inRead Fsm.awaitAck1 [true] with hist := [.delay 80] } = true := by decide

/-- One state for each case of a poll, for the three waits. -/
theorem witness_PollsOnce :
    (lineLevel (inRead Fsm.awaitAckEnd [false]) = false ∧ lineLevel (inRead Fsm.bitWaitRise [true]) = true) ∧
    (lineLevel (inRead Fsm.awaitAckEnd [true]) = !false ∧ config.boundAckEnd = none ∧ config.boundRise = none ∧
      config.boundFall = none ∧ lineLevel (inRead Fsm.bitWaitRise [false]) = !true) ∧
    (∀ a, clockAnswer 200 (sampled (inBoundedRead Fsm.awaitAckEnd [true] [a])) = a ∧
      clockAnswer 200 (sampled (inBoundedRead Fsm.bitWaitRise [false] [a])) = a) ∧
    boundedConfig.boundAckEnd = some 200 ∧ boundedConfig.boundRise = some 200 ∧
    boundedConfig.boundFall = some 200 := by decide

theorem witness_BitSampleShiftsTheBitIn :
    lineLevel { inRead Fsm.bitSample [true] with hist := [.delay 40] } = true ∧
    (lineLevel { inRead Fsm.bitSample [false] with hist := [.delay 40], cnt := 38#6 } = false ∧ 38#6 + 1#6 ≠ 40#6) ∧
    (lineLevel { inRead Fsm.bitSample [false] with hist := [.delay 40], cnt := 39#6 } = false ∧
      39#6 + 1#6 = 40#6) := by decide

theorem witness_ExitLevelWinsOverTimeout :
    (answer (exec .awaitAckEnd (inBoundedRead Fsm.awaitAckEnd [false] [true]))).isSome = true ∧
    isWait Fsm.awaitAckEnd = true ∧ decodeState Fsm.awaitAckEnd = some .awaitAckEnd ∧
    lineLevel (inBoundedRead Fsm.awaitAckEnd [false] [true]) = !stayLevel Fsm.awaitAckEnd ∧
    lineLevel (inBoundedRead Fsm.bitWaitRise [true] [true]) = !stayLevel Fsm.bitWaitRise ∧
    lineLevel (inBoundedRead Fsm.bitWaitFall [false] [true]) = !stayLevel Fsm.bitWaitFall := by decide

theorem witness_DecodeWritesTheReading :
    checksumOk 0x01F400C8BC#40 = false ∧ checksumOk 0x028C806573#40 = true ∧ config.verifyChecksum = false ∧
    ({ config with verifyChecksum := true } : Config).verifyChecksum = true := by decide

theorem witness_ShiftEntersAtTheLowestBit : (0x7FFFFFFFFF#40).toNat < 2 ^ 39 := by decide

theorem witness_FortyShiftsAssembleTheFrame : (wireBits 0x01F400C8BC#40).length = 40 := by decide

theorem witness_SignMagnitudeDecodes :
    (0x8000#16).getLsbD 15 = true ∧ (0x7FFF#16).getLsbD 15 = false := by decide

theorem witness_AcceptedReadingValues :
    (inRead Fsm.decode []).cfg.verifyChecksum = false ∧
    (humidityField 0x7FFF000000#40).toNat = 0x7FFF ∧ (humidityField 0x8000000000#40).toNat = 0x8000 ∧
    (temperatureField 0x00007FFF00#40).getLsbD 15 = false ∧
    (temperatureField 0x0000800000#40).getLsbD 15 = true := by decide

/-- R180 at both ends of its range. -/
theorem witness_EncodedPairDecodesBack :
    s16 (humidityField (frameOf (-32768) (-32767) 0#8)) = -32768 ∧
    s16 (u16 (signMagnitude (temperatureField (frameOf 32767 (-32767) 0#8)))) = -32767 ∧
    (-32768 : Int) ≤ 32767 ∧ (-32767 : Int) ≤ 32767 := by decide

theorem primitiveFree_of_nil {s : State} (h : s.agenda = []) : PrimitiveFree s := by
  simp [PrimitiveFree, h]

/-- The invariants hold after a completed read. -/
theorem witness_invariant_afterRead : StateInvariant afterRead := by
  constructor <;> first | decide | (unfold ResultsFinal; decide) | exact primitiveFree_of_nil rfl

/-- The invariants hold at the start of a read. -/
theorem witness_invariant_atWake : StateInvariant (atWake [false, true]) := by
  constructor <;> first | decide | (unfold ResultsFinal; decide) | exact primitiveFree_of_nil rfl

/-- The invariants hold in a bounded wait about to time out. -/
theorem witness_invariant_timeout : StateInvariant { inBoundedRead Fsm.bitWaitFall [true] [true] with cnt := 1#6 } := by
  constructor <;> first | decide | (unfold ResultsFinal; decide) | exact primitiveFree_of_nil rfl

/-- The invariants hold in DECODE with a wrong checksum to verify. -/
theorem witness_invariant_mismatch :
    StateInvariant { inRead Fsm.decode [] with
      cfg := { config with verifyChecksum := true }, sr := 0x01F400C8BC#40, cnt := 40#6 } := by
  constructor <;> first | decide | (unfold ResultsFinal; decide) | exact primitiveFree_of_nil rfl

/-- The invariants hold in FINALIZE, after success and after failure. -/
theorem witness_invariant_finalize :
    StateInvariant { afterRead with fsm := Fsm.finalize, mode := .listening } ∧
    StateInvariant { inRead Fsm.finalize [] with
      cause := 0b001#3, rhWritten := true, tempWritten := true } := by
  constructor <;> constructor <;> first | decide | (unfold ResultsFinal; decide) | exact primitiveFree_of_nil rfl

/-- The invariants hold where a READ and where an early GET is pending. -/
theorem witness_invariant_pending :
    StateInvariant { afterInit with agenda := [.command 0b10#2] } ∧
    StateInvariant { afterInit with agenda := [.get] } := by
  constructor <;> constructor <;> first | decide | (unfold ResultsFinal; decide) | simp [PrimitiveFree]

theorem witness_StepKeepsTheInvariants :
    StateInvariant (atWake [false, true]) ∧ ∃ t, step (atWake [false, true]) = .next t :=
  ⟨witness_invariant_atWake, _, rfl⟩

theorem witness_OnlyAnEarlyGetStops :
    StateInvariant { afterInit with agenda := [.get] } ∧
    step { afterInit with agenda := [.get] } = .fault .readUnwritten ∧ afterInit.faultMark = none ∧
    afterInit.cfg.legal = true :=
  ⟨witness_invariant_pending.2, rfl, rfl, by decide⟩

theorem witness_MarksAreNeverCleared :
    ({ afterInit with faultMark := some .readUnwritten } : State).faultMark = some .readUnwritten ∧
    RefusalReason.reservedCommand ∈ ({ afterInit with refusalMark := [.reservedCommand] } : State).refusalMark ∧
    step { afterInit with agenda := [.get] } = .fault .readUnwritten ∧
    step { afterInit with cfg := { config with tWake := 9999 } } = .refused .illegalConfiguration :=
  ⟨rfl, by decide, rfl, rfl⟩

theorem witness_next_states :
    (∃ t, step (atWake []) = .next t ∧ t.hist = [.delay 10000]) ∧
    (∃ t, step afterRead = .next t ∧ afterRead.bound = true ∧ afterRead.rhWritten = true ∧
      afterRead.tempWritten = true ∧ afterRead.causeWritten = true) :=
  ⟨⟨_, rfl, rfl⟩, ⟨_, rfl, rfl, rfl, rfl, rfl⟩⟩

/-- Each register named by the statement is changed by one of the operations it names. -/
theorem witness_EachRegisterHasItsWriters :
    (∃ t, exec .read afterRead = .next t ∧ t.sr ≠ afterRead.sr ∧ t.cnt ≠ afterRead.cnt ∧ t.mode ≠ afterRead.mode) ∧
    (∃ t, exec .failed afterRead = .next t ∧ t.rh ≠ afterRead.rh ∧ t.temp ≠ afterRead.temp) ∧
    (∃ t, exec .awaitAck0 (inRead Fsm.awaitAck0 [true]) = .next t ∧ t.cause ≠ 0#3) ∧
    (∃ t, exec .init afterReset = .next t ∧ t.bound ≠ afterReset.bound) ∧
    (∃ t, exec .init (atWake []) = .next t ∧ t.refusalMark ≠ (atWake []).refusalMark) ∧
    Instr.format (.delay 40) = .prim :=
  ⟨⟨_, rfl, by decide⟩, ⟨_, rfl, by decide⟩, ⟨_, rfl, by decide⟩, ⟨_, rfl, by decide⟩, ⟨_, rfl, by decide⟩, rfl⟩

/-- A wait times out, and DECODE refuses a frame. -/
theorem witness_StepsFollowTheStateGraph :
    (∃ t, step { inBoundedRead Fsm.bitWaitFall [true] [true] with cnt := 1#6 } = .next t ∧ t.fsm = Fsm.failed) ∧
    (∃ t, step { inRead Fsm.decode [] with
        cfg := { config with verifyChecksum := true }, sr := 0x01F400C8BC#40, cnt := 40#6 } = .next t ∧
      t.fsm = Fsm.failed) :=
  ⟨⟨_, rfl, rfl⟩, ⟨_, rfl, rfl⟩⟩

theorem witness_SamplesOnlyWhileListening :
    ∃ t, step { inBoundedRead Fsm.bitWaitFall [true] [true] with cnt := 1#6 } = .next t ∧
      Event.sample true ∈ newEvents { inBoundedRead Fsm.bitWaitFall [true] [true] with cnt := 1#6 } t :=
  ⟨_, rfl, by decide⟩

theorem witness_ReadsBeginAndEndInOnePlace :
    (∃ t, step { afterInit with agenda := [.command 0b10#2] } = .next t ∧
      busy { afterInit with agenda := [.command 0b10#2] } = false ∧ busy t = true) ∧
    (∃ t, step { afterRead with fsm := Fsm.finalize, mode := .listening } = .next t ∧
      busy { afterRead with fsm := Fsm.finalize, mode := .listening } = true ∧ busy t = false) :=
  ⟨⟨_, rfl, by decide⟩, ⟨_, rfl, by decide⟩⟩

theorem witness_DoneIsADecodedFrameOrTheSentinel :
    (∃ t, step { afterRead with fsm := Fsm.finalize, mode := .listening } = .next t ∧
      Event.done 0x01F4#16 0x00C8#16 0b000#3 ∈
        newEvents { afterRead with fsm := Fsm.finalize, mode := .listening } t) ∧
    (∃ t, step { inRead Fsm.finalize [] with cause := 0b001#3, rhWritten := true, tempWritten := true } = .next t ∧
      Event.done 0#16 0#16 0b001#3 ∈
        newEvents { inRead Fsm.finalize [] with cause := 0b001#3, rhWritten := true, tempWritten := true } t) :=
  ⟨⟨_, rfl, by decide⟩, ⟨_, rfl, by decide⟩⟩

theorem witness_AtWake (line : List Bool) : AtWake (atWake line) :=
  ⟨rfl, rfl, rfl, (by decide : config.legal = true), rfl, rfl, rfl, rfl⟩

theorem witness_FailedHandshakesEndIdle :
    AtWake (atWake [true]) ∧ AtWake (atWake [false, false]) :=
  ⟨witness_AtWake _, witness_AtWake _⟩

/-- P1's stimulus. -/
theorem witness_EveryAnsweredFrameIsRead :
    AtWake (atWake (readSamples 1 scenarioB)) ∧ scenarioB.length = 40 ∧
    0x01F400C8BC#40 = shiftedFrame (scenarioB.map BitAnswers.bit) ∧
    config.boundAckEnd = none ∧ config.boundRise = none ∧ config.boundFall = none ∧ config.verifyChecksum = false ∧
    (atWake (readSamples 1 scenarioB)).lineIn = readSamples 1 scenarioB ++ [] :=
  ⟨witness_AtWake _, by decide, by decide +kernel, by decide, by decide, by decide, by decide, by simp [atWake]⟩

/-- P1's stimulus. -/
theorem witness_SuccessfulReadRequestsItsDelays :
    AtWake (atWake (readSamples 1 scenarioB)) ∧ scenarioB.length = 40 ∧ config.boundAckEnd = none ∧
    config.boundRise = none ∧ config.boundFall = none ∧ config.verifyChecksum = false ∧
    (atWake (readSamples 1 scenarioB)).lineIn = readSamples 1 scenarioB ++ [] :=
  ⟨witness_AtWake _, by decide, by decide, by decide, by decide, by decide, by simp [atWake]⟩

/-- P1's frame is that of the pair (500, 200). -/
theorem witness_SentPairIsReadBack :
    AtWake (atWake (readSamples 1 scenarioB)) ∧ (-32768 : Int) ≤ 500 ∧ (500 : Int) ≤ 32767 ∧ (-32767 : Int) ≤ 200 ∧
    (200 : Int) ≤ 32767 ∧ config.boundAckEnd = none ∧ config.boundRise = none ∧ config.boundFall = none ∧
    config.verifyChecksum = false ∧ (atWake (readSamples 1 scenarioB)).lineIn = readSamples 1 scenarioB ++ [] ∧
    scenarioB.map BitAnswers.bit = wireBits (frameOf 500 200 0xBC#8) ∧
    (0xBD#8).toNat = checksum (frameOf 500 200 0xBD#8)  :=
  ⟨witness_AtWake _, by decide, by decide, by decide, by decide, by decide, by decide, by decide, by decide,
    by simp [atWake], by decide, by decide⟩

/-- V83. -/
theorem witness_StuckLinePollsOn :
    standingStop (inRead Fsm.bitWaitFall [true, true]) = none ∧ (inRead Fsm.bitWaitFall [true, true]).agenda = [] ∧
    isWait Fsm.bitWaitFall = true ∧ waitBound config Fsm.bitWaitFall = none ∧
    (inRead Fsm.bitWaitFall [true, true]).lineIn = List.replicate 2 (stayLevel Fsm.bitWaitFall) ++ [] := by decide

/-- P5. -/
theorem witness_TimedOutWaitEndsTheRead :
    standingStop (inBoundedRead Fsm.bitWaitFall [true, true, true] [false, false, true]) = none ∧
    isWait Fsm.bitWaitFall = true ∧ waitBound boundedConfig Fsm.bitWaitFall = some 200 ∧
    (inBoundedRead Fsm.bitWaitFall [true, true, true] [false, false, true]).lineIn =
      List.replicate (2 + 1) (stayLevel Fsm.bitWaitFall) ++ [] ∧
    (inBoundedRead Fsm.bitWaitFall [true, true, true] [false, false, true]).clockIn =
      List.replicate 2 false ++ true :: [] := by decide

/-- A host that leaves three steps to the block and then sends NOPs for ever. -/
def nopHost (n : Nat) : List Turn := if n < 3 then [] else [.command 0b00#2]

/-- The run with this host from a wait about to time out. -/
def timeoutRun : Nat → State
  | 0 => { inBoundedRead Fsm.bitWaitFall [true] [true] with cnt := 1#6 }
  | n + 1 => markedStep (schedule (nopHost n) (timeoutRun n))

theorem timeoutRun_idle (n : Nat) : timeoutRun (n + 3) = timeoutRun 3 := by
  induction n with
  | zero => rfl
  | succ n ih =>
    show markedStep (schedule (nopHost (n + 3)) (timeoutRun (n + 3))) = _
    rw [ih]
    rfl

theorem timeoutRun_idle_fsm (n : Nat) : (timeoutRun (n + 3)).fsm = Fsm.idle := by
  rw [timeoutRun_idle]
  rfl

theorem witness_BoundedReadsEnd :
    Execution nopHost timeoutRun ∧ StateInvariant (timeoutRun 0) ∧ AllBounded (timeoutRun 0).cfg ∧
    BlockFair nopHost timeoutRun ∧ ClockFair timeoutRun := by
  refine ⟨⟨?_, ?_⟩, witness_invariant_timeout, ⟨nofun, nofun, nofun⟩, ?_, ?_⟩
  · intro n w k
    unfold nopHost
    split <;> simp
  · rintro (_ | _ | _ | n)
    · rfl
    · rfl
    · rfl
    · show step (schedule [.command 0b00#2] (timeoutRun (n + 3))) = .next (timeoutRun (n + 1 + 3))
      rw [timeoutRun_idle n, timeoutRun_idle (n + 1)]
      rfl
  · intro n hbusy
    have h := hbusy (n + 3) (by omega)
    simp [busy, timeoutRun_idle_fsm] at h
  · intro n f hf hstay _
    rw [← hstay (n + 3) (by omega), timeoutRun_idle_fsm] at hf
    exact absurd hf (by decide)

/-- R201: a host that sends NOPs for ever is a run. -/
theorem test_endless_nops : Execution (fun _ => [.command 0b00#2]) (fun _ => afterInit) :=
  ⟨by simp, fun _ => rfl⟩

end Sys2Proof.Tests
end

section
/-! PROOFS. The scope (spec/00_scope.md): a step runs the decoded word (R9), which configurations have a meaning (R8), and
what no step ever takes back (R7, with 10_state.md R26 to R28). -/

namespace Sys2Proof.Machine

/-! ### The decoded word -/

/-- A word that decodes runs its operation. -/
theorem runMove_word_of_decode {w : CodeWord} {i : Instr} (h : decode w = some i) (s : State) :
    runMove (.word w) s = exec i s := by
  simp [runMove, h]

/-- Settles O6: with nothing standing, a step is its fetched move, and that move's word runs its operation. -/
theorem stepRunsTheDecodedWord : Obligations.StepRunsTheDecodedWord := by
  intro s w i hs hf hd
  rw [step_eq_runMove hs, hf, runMove_word_of_decode hd]

/-! ### Legal configurations -/

/-- The one illegal wait bound is 0 (R8). -/
theorem legalBound_iff (b : Option Nat) : Config.legalBound b = true ↔ b ≠ some 0 := by
  cases b <;> simp [Config.legalBound, Nat.one_le_iff_ne_zero]

/-- The legal ranges of R8. -/
theorem legal_iff (c : Config) : c.legal = true ↔
    10000 ≤ c.tWake ∧ 20 ≤ c.tRel ∧ c.tRel ≤ 40 ∧
      c.boundAckEnd ≠ some 0 ∧ c.boundRise ≠ some 0 ∧ c.boundFall ≠ some 0 := by
  simp only [Config.legal, Bool.and_eq_true, decide_eq_true_eq, legalBound_iff, and_assoc]

/-- Two blocks are legal together when both are legal and they share neither line nor clock (R109, R234). -/
theorem legalSystem_pair_iff (c d : Config) : Config.legalSystem [c, d] = true ↔
    c.legal = true ∧ d.legal = true ∧ c.lineId ≠ d.lineId ∧ c.clockId ≠ d.clockId := by
  simp [Config.legalSystem, and_assoc]

/-- What stands before any move is the step's outcome. -/
theorem step_of_standingStop {s : State} {o : Host.Outcome State Fault Refusal} (h : standingStop s = some o) :
    step s = o := by
  simp [step, h]

/-- Without a fault mark, an illegal configuration stands before any move (R8). -/
theorem standingStop_of_illegal {s : State} (hm : s.faultMark = none) (hc : s.cfg.legal = false) :
    standingStop s = some (.refused .illegalConfiguration) := by
  simp [standingStop, hm, hc]

/-- Settles O8: the ranges, the pairwise check, and the refusal that stands before any move. -/
theorem illegalConfigurationIsRefused : Obligations.IllegalConfigurationIsRefused :=
  ⟨legal_iff, legalSystem_pair_iff, fun _ hm hc => step_of_standingStop (standingStop_of_illegal hm hc)⟩

/-! ### What no step takes back

`KeepsConfigAndTags` is reflexive and transitive, and every shared update of Machine/Ops.lean extends it by one update; an
operation's proof is then the chain of its updates. -/

/-- From `s` to `t` the configuration is the same (R7), and the binding (R28) and the written tags (R26, R27) stay. -/
structure KeepsConfigAndTags (s t : State) : Prop where
  cfg : t.cfg = s.cfg
  bound : s.bound = true → t.bound = true
  rhWritten : s.rhWritten = true → t.rhWritten = true
  tempWritten : s.tempWritten = true → t.tempWritten = true
  causeWritten : s.causeWritten = true → t.causeWritten = true

namespace KeepsConfigAndTags

theorem refl (s : State) : KeepsConfigAndTags s s := ⟨rfl, id, id, id, id⟩

theorem trans {s t u : State} (h : KeepsConfigAndTags s t) (k : KeepsConfigAndTags t u) : KeepsConfigAndTags s u :=
  ⟨k.cfg.trans h.cfg, k.bound ∘ h.bound, k.rhWritten ∘ h.rhWritten, k.tempWritten ∘ h.tempWritten,
    k.causeWritten ∘ h.causeWritten⟩

section updates

variable {s t : State} (h : KeepsConfigAndTags s t)
include h

/-- An update that leaves the five fields as they are extends the relation. -/
theorem of_eq {u : State} (hc : u.cfg = t.cfg) (hb : u.bound = t.bound) (hr : u.rhWritten = t.rhWritten)
    (ht : u.tempWritten = t.tempWritten) (hw : u.causeWritten = t.causeWritten) : KeepsConfigAndTags s u :=
  h.trans ⟨hc, by simp [hb], by simp [hr], by simp [ht], by simp [hw]⟩

theorem emit (e : Event) : KeepsConfigAndTags s (emit e t) := h.of_eq rfl rfl rfl rfl rfl

theorem goto (f : FsmWord) : KeepsConfigAndTags s (goto f t) := h.of_eq rfl rfl rfl rfl rfl

theorem setMode (m : LineState) : KeepsConfigAndTags s (setMode m t) := h.of_eq rfl rfl rfl rfl rfl

theorem delay (n : Nat) : KeepsConfigAndTags s (delay n t) := h.of_eq rfl rfl rfl rfl rfl

theorem driveHighRelease (n : Nat) : KeepsConfigAndTags s (driveHighRelease n t) := h.of_eq rfl rfl rfl rfl rfl

theorem sampled : KeepsConfigAndTags s (sampled t) := h.of_eq rfl rfl rfl rfl rfl

theorem timeoutAsked (b : Nat) : KeepsConfigAndTags s (timeoutAsked b t) := h.of_eq rfl rfl rfl rfl rfl

theorem clearFrame : KeepsConfigAndTags s (clearFrame t) := h.of_eq rfl rfl rfl rfl rfl

theorem shiftIn (v : Bool) : KeepsConfigAndTags s (shiftIn v t) := h.of_eq rfl rfl rfl rfl rfl

theorem finishRead : KeepsConfigAndTags s (finishRead t) := h.of_eq rfl rfl rfl rfl rfl

theorem refuse (r : RefusalReason) : KeepsConfigAndTags s (refuse r t) := h.of_eq rfl rfl rfl rfl rfl

theorem latchPorts : KeepsConfigAndTags s (latchPorts t) := h.of_eq rfl rfl rfl rfl rfl

theorem endTurn (rest : List Turn) : KeepsConfigAndTags s (endTurn rest t) := h.of_eq rfl rfl rfl rfl rfl

theorem bindLine : KeepsConfigAndTags s (bindLine t) := { h with bound := fun _ => rfl }

theorem writeCause (c : CauseWord) : KeepsConfigAndTags s (writeCause c t) := { h with causeWritten := fun _ => rfl }

theorem writeResults (x y : ResultWord) : KeepsConfigAndTags s (writeResults x y t) :=
  { h with rhWritten := fun _ => rfl, tempWritten := fun _ => rfl }

theorem raiseFailure (c : CauseWord) : KeepsConfigAndTags s (raiseFailure c t) := (h.writeCause c).goto _

/-- Each of a poll's four outcomes. -/
theorem poll (exitLevel : Bool) (bound : Option Nat) (exit again : FsmWord) :
    KeepsConfigAndTags s (poll exitLevel bound exit again t) := by
  obtain ⟨_, hp⟩ | ⟨_, _, hp⟩ | ⟨b, _, _, _, hp⟩ | ⟨b, _, _, _, hp⟩ := poll_cases exitLevel bound exit again t <;> rw [hp]
  · exact h.sampled.goto _
  · exact h.sampled.goto _
  · exact (h.sampled.timeoutAsked b).raiseFailure _
  · exact (h.sampled.timeoutAsked b).goto _

end updates

end KeepsConfigAndTags

/-- Every operation answers a next state that keeps configuration, binding and tags. -/
theorem exec_answers_keepsConfigAndTags (i : Instr) (s : State) :
    ∃ t, exec i s = .next t ∧ KeepsConfigAndTags s t := by
  have h := KeepsConfigAndTags.refl s
  cases i with
  | nop => exact ⟨_, exec_nop s, h⟩
  | init =>
    cases hb : busy s
    · exact ⟨_, exec_init_of_idle s hb, (h.emit _).bindLine.setMode _⟩
    · exact ⟨_, exec_init_of_busy s hb, h.refuse _⟩
  | read =>
    cases hb : busy s
    · cases hi : s.bound
      · exact ⟨_, exec_read_of_unbound s hb hi, h.refuse _⟩
      · exact ⟨_, exec_read_of_ready s hb hi, (((h.emit _).clearFrame.writeCause _).setMode _).goto _⟩
    · exact ⟨_, exec_read_of_busy s hb, h.refuse _⟩
  | idle => exact ⟨_, exec_idle s, h⟩
  | wakeLow => exact ⟨_, exec_wakeLow s, (h.delay _).goto _⟩
  | releaseHigh => exact ⟨_, exec_releaseHigh s, (h.driveHighRelease _).goto _⟩
  | awaitAck0 =>
    cases hv : lineLevel (delay s.cfg.tAck0 s)
    · exact ⟨_, exec_awaitAck0_of_low s hv, (h.delay _).sampled.goto _⟩
    · exact ⟨_, exec_awaitAck0_of_high s hv, (h.delay _).sampled.raiseFailure _⟩
  | awaitAck1 =>
    cases hv : lineLevel (delay s.cfg.tAck1 s)
    · exact ⟨_, exec_awaitAck1_of_low s hv, (h.delay _).sampled.raiseFailure _⟩
    · exact ⟨_, exec_awaitAck1_of_high s hv, (h.delay _).sampled.goto _⟩
  | awaitAckEnd => exact ⟨_, exec_awaitAckEnd s, h.poll ..⟩
  | ready => exact ⟨_, exec_ready s, h.goto _⟩
  | bitWaitRise => exact ⟨_, exec_bitWaitRise s, h.poll ..⟩
  | bitSample =>
    cases hv : lineLevel (delay s.cfg.tBit s)
    · exact ⟨_, exec_bitSample_of_zero s hv, ((h.delay _).sampled.shiftIn _).goto _⟩
    · exact ⟨_, exec_bitSample_of_one s hv, ((h.delay _).sampled.shiftIn _).goto _⟩
  | bitWaitFall => exact ⟨_, exec_bitWaitFall s, h.poll ..⟩
  | decode =>
    by_cases hm : s.cfg.verifyChecksum = true ∧ checksumOk s.sr = false
    · exact ⟨_, exec_decode_of_mismatch s hm.1 hm.2, h.raiseFailure _⟩
    · have ha : s.cfg.verifyChecksum = false ∨ checksumOk s.sr = true := by simpa [imp_iff_not_or] using hm
      exact ⟨_, exec_decode_of_accepted s ha, (h.writeResults ..).goto _⟩
  | failed => exact ⟨_, exec_failed s, (h.writeResults ..).goto _⟩
  | finalize => exact ⟨_, exec_finalize s, h.finishRead⟩
  | driveLow => exact ⟨_, exec_driveLow s, h.setMode _⟩
  | driveHighRelease n => exact ⟨_, exec_driveHighRelease s n, h.driveHighRelease n⟩
  | release => exact ⟨_, exec_release s, h.setMode _⟩
  | sample => exact ⟨_, exec_sample s, h.sampled⟩
  | idleHigh => exact ⟨_, exec_idleHigh s, h.setMode _⟩
  | delay n => exact ⟨_, exec_delay s n, h.delay n⟩
  | elapsed b => exact ⟨_, exec_elapsed s b, h.timeoutAsked b⟩

theorem exec_keepsConfigAndTags {i : Instr} {s t : State} (h : exec i s = .next t) : KeepsConfigAndTags s t := by
  obtain ⟨u, hu, hk⟩ := exec_answers_keepsConfigAndTags i s
  cases hu.symm.trans h
  exact hk

/-- Taking a turn touches the agenda alone. -/
theorem fetch_keepsConfigAndTags (s : State) : KeepsConfigAndTags s (fetch s).2 := by
  obtain hf | ⟨turn, rest, _, hf⟩ := fetch_state s <;> rw [hf]
  · exact .refl s
  · exact (KeepsConfigAndTags.refl s).endTurn rest

/-- Every way a step can answer a next state: an operation, a refusal, or a GET. -/
theorem step_keepsConfigAndTags {s t : State} (h : step s = .next t) : KeepsConfigAndTags s t := by
  have hf := fetch_keepsConfigAndTags s
  obtain ⟨_, ⟨w, i, _, _, he⟩ | ⟨w, _, _, rfl⟩ | ⟨_, _, rfl⟩ | ⟨_, _, _, rfl⟩⟩ := step_cases h
  · exact hf.trans (exec_keepsConfigAndTags he)
  · exact hf.refuse _
  · exact hf.refuse _
  · exact hf.latchPorts

/-- Settles O48, field by field of the relation that every step keeps. -/
theorem configurationBindingAndTagsPersist : Obligations.ConfigurationBindingAndTagsPersist := by
  intro s t h
  obtain ⟨hcfg, hbound, hrh, htemp, hcause⟩ := step_keepsConfigAndTags h
  exact ⟨hcfg, hbound, hrh, htemp, hcause⟩

end Sys2Proof.Machine
end

section
/-! PROOFS. The state (spec/10_state.md): what reset leaves (R34), which operation writes which register (R20), the state
graph (R21), and the invariants (R33). -/

namespace Sys2Proof.Machine

/-! ### Reset (R34) -/

/-- Settles O9: the fields of `State.resetWith`, with the model's own draw as the witness. -/
theorem resetLeavesTheStatedValues : Obligations.ResetLeavesTheStatedValues :=
  ⟨fun _ _ => ⟨rfl, rfl, rfl, rfl, rfl, rfl, rfl, rfl, rfl, rfl, rfl⟩, ResetDraw.zero, rfl⟩

/-! ### What an operation does -/

/-- Everything an operation can do, one constructor for each outcome with its guard; a poll's own outcomes are
`poll_cases`. -/
inductive Executes : Instr → State → State → Prop where
  | nop {s : State} : Executes .nop s s
  | initBusy {s : State} (busy : s.fsm ≠ Fsm.idle) : Executes .init s (refuse .commandWhileBusy s)
  | init {s : State} (rests : s.fsm = Fsm.idle) :
      Executes .init s (setMode .idle (bindLine (emit (.cmd .init) s)))
  | readBusy {s : State} (busy : s.fsm ≠ Fsm.idle) : Executes .read s (refuse .commandWhileBusy s)
  | readUnbound {s : State} (rests : s.fsm = Fsm.idle) (unbound : s.bound = false) :
      Executes .read s (refuse .readBeforeInit s)
  | read {s : State} (rests : s.fsm = Fsm.idle) (bound : s.bound = true) :
      Executes .read s
        (goto Fsm.wakeLow (setMode .drivingLow (writeCause Cause.ok (clearFrame (emit (.cmd .read) s)))))
  | idle {s : State} : Executes .idle s s
  | wakeLow {s : State} : Executes .wakeLow s (goto Fsm.releaseHigh (delay s.cfg.tWake s))
  | releaseHigh {s : State} : Executes .releaseHigh s (goto Fsm.awaitAck0 (driveHighRelease s.cfg.tRel s))
  | noResponse {s : State} (high : lineLevel (delay s.cfg.tAck0 s) = true) :
      Executes .awaitAck0 s (raiseFailure Cause.handshakeNoResponse (sampled (delay s.cfg.tAck0 s)))
  | awaitAck0 {s : State} (low : lineLevel (delay s.cfg.tAck0 s) = false) :
      Executes .awaitAck0 s (goto Fsm.awaitAck1 (sampled (delay s.cfg.tAck0 s)))
  | ackMissing {s : State} (low : lineLevel (delay s.cfg.tAck1 s) = false) :
      Executes .awaitAck1 s (raiseFailure Cause.handshakeAckMissing (sampled (delay s.cfg.tAck1 s)))
  | awaitAck1 {s : State} (high : lineLevel (delay s.cfg.tAck1 s) = true) :
      Executes .awaitAck1 s (goto Fsm.awaitAckEnd (sampled (delay s.cfg.tAck1 s)))
  | awaitAckEnd {s : State} :
      Executes .awaitAckEnd s (poll false s.cfg.boundAckEnd Fsm.ready Fsm.awaitAckEnd s)
  | ready {s : State} : Executes .ready s (goto Fsm.bitWaitRise s)
  | bitWaitRise {s : State} :
      Executes .bitWaitRise s (poll true s.cfg.boundRise Fsm.bitSample Fsm.bitWaitRise s)
  | bitOne {s : State} (one : lineLevel (delay s.cfg.tBit s) = true) :
      Executes .bitSample s (goto Fsm.bitWaitFall (shiftIn true (sampled (delay s.cfg.tBit s))))
  | bitZero {s : State} (zero : lineLevel (delay s.cfg.tBit s) = false) :
      Executes .bitSample s (goto (afterBit (s.cnt + 1#6)) (shiftIn false (sampled (delay s.cfg.tBit s))))
  | bitWaitFall {s : State} :
      Executes .bitWaitFall s (poll false s.cfg.boundFall (afterBit s.cnt) Fsm.bitWaitFall s)
  | mismatch {s : State} (verify : s.cfg.verifyChecksum = true) (wrong : checksumOk s.sr = false) :
      Executes .decode s (raiseFailure Cause.checksumMismatch s)
  | accepted {s : State} (ok : s.cfg.verifyChecksum = true → checksumOk s.sr = true) :
      Executes .decode s (goto Fsm.finalize
        (writeResults (humidityField s.sr) (temperatureWord (temperatureField s.sr)) s))
  | failed {s : State} : Executes .failed s (goto Fsm.finalize (writeResults 0#16 0#16 s))
  | finalize {s : State} : Executes .finalize s (finishRead s)
  | driveLow {s : State} : Executes .driveLow s (setMode .drivingLow s)
  | driveHighRelease {s : State} (n : Nat) : Executes (.driveHighRelease n) s (driveHighRelease n s)
  | release {s : State} : Executes .release s (setMode .listening s)
  | sample {s : State} : Executes .sample s (sampled s)
  | idleHigh {s : State} : Executes .idleHigh s (setMode .idle s)
  | delay {s : State} (n : Nat) : Executes (.delay n) s (delay n s)
  | elapsed {s : State} (b : Nat) : Executes (.elapsed b) s (timeoutAsked b s)

/-- Every operation answers one of its outcomes. -/
theorem exec_answers_executes (i : Instr) (s : State) : ∃ t, exec i s = .next t ∧ Executes i s t := by
  cases i with
  | nop => exact ⟨_, exec_nop s, .nop⟩
  | init =>
    cases hb : busy s
    · exact ⟨_, exec_init_of_idle s hb, .init ((busy_eq_false_iff s).mp hb)⟩
    · exact ⟨_, exec_init_of_busy s hb, .initBusy ((busy_eq_true_iff s).mp hb)⟩
  | read =>
    cases hb : busy s
    · cases hi : s.bound
      · exact ⟨_, exec_read_of_unbound s hb hi, .readUnbound ((busy_eq_false_iff s).mp hb) hi⟩
      · exact ⟨_, exec_read_of_ready s hb hi, .read ((busy_eq_false_iff s).mp hb) hi⟩
    · exact ⟨_, exec_read_of_busy s hb, .readBusy ((busy_eq_true_iff s).mp hb)⟩
  | idle => exact ⟨_, exec_idle s, .idle⟩
  | wakeLow => exact ⟨_, exec_wakeLow s, .wakeLow⟩
  | releaseHigh => exact ⟨_, exec_releaseHigh s, .releaseHigh⟩
  | awaitAck0 =>
    cases hv : lineLevel (Machine.delay s.cfg.tAck0 s)
    · exact ⟨_, exec_awaitAck0_of_low s hv, .awaitAck0 hv⟩
    · exact ⟨_, exec_awaitAck0_of_high s hv, .noResponse hv⟩
  | awaitAck1 =>
    cases hv : lineLevel (Machine.delay s.cfg.tAck1 s)
    · exact ⟨_, exec_awaitAck1_of_low s hv, .ackMissing hv⟩
    · exact ⟨_, exec_awaitAck1_of_high s hv, .awaitAck1 hv⟩
  | awaitAckEnd => exact ⟨_, exec_awaitAckEnd s, .awaitAckEnd⟩
  | ready => exact ⟨_, exec_ready s, .ready⟩
  | bitWaitRise => exact ⟨_, exec_bitWaitRise s, .bitWaitRise⟩
  | bitSample =>
    cases hv : lineLevel (Machine.delay s.cfg.tBit s)
    · exact ⟨_, exec_bitSample_of_zero s hv, .bitZero hv⟩
    · exact ⟨_, exec_bitSample_of_one s hv, .bitOne hv⟩
  | bitWaitFall => exact ⟨_, exec_bitWaitFall s, .bitWaitFall⟩
  | decode =>
    by_cases hm : s.cfg.verifyChecksum = true ∧ checksumOk s.sr = false
    · exact ⟨_, exec_decode_of_mismatch s hm.1 hm.2, .mismatch hm.1 hm.2⟩
    · have ha : s.cfg.verifyChecksum = true → checksumOk s.sr = true := by simpa using hm
      exact ⟨_, exec_decode_of_accepted s (by simpa [imp_iff_not_or] using ha), .accepted ha⟩
  | failed => exact ⟨_, exec_failed s, .failed⟩
  | finalize => exact ⟨_, exec_finalize s, .finalize⟩
  | driveLow => exact ⟨_, exec_driveLow s, .driveLow⟩
  | driveHighRelease n => exact ⟨_, exec_driveHighRelease s n, .driveHighRelease n⟩
  | release => exact ⟨_, exec_release s, .release⟩
  | sample => exact ⟨_, exec_sample s, .sample⟩
  | idleHigh => exact ⟨_, exec_idleHigh s, .idleHigh⟩
  | delay n => exact ⟨_, exec_delay s n, .delay n⟩
  | elapsed b => exact ⟨_, exec_elapsed s b, .elapsed b⟩

/-- The inversion of `exec`. -/
theorem executes_of_exec {i : Instr} {s t : State} (h : exec i s = .next t) : Executes i s t := by
  obtain ⟨u, hu, he⟩ := exec_answers_executes i s
  cases hu.symm.trans h
  exact he

/-! ### Which operation writes which register (R20) -/

/-- A poll writes `fsm` and `cause`, appends events and takes answers; the rest stays. -/
@[simp] theorem poll_frame (level : Bool) (bound : Option Nat) (exit again : FsmWord) (s : State) :
    let t := poll level bound exit again s
    t.sr = s.sr ∧ t.cnt = s.cnt ∧ t.mode = s.mode ∧ t.rh = s.rh ∧ t.temp = s.temp ∧ t.bound = s.bound ∧
      t.cfg = s.cfg ∧ t.refusalMark = s.refusalMark ∧ t.faultMark = s.faultMark ∧ t.agenda = s.agenda ∧
      t.hostGot = s.hostGot := by
  obtain ⟨_, hp⟩ | ⟨_, _, hp⟩ | ⟨_, _, _, _, hp⟩ | ⟨_, _, _, _, hp⟩ := poll_cases level bound exit again s <;>
    simp [hp]

section writers

variable {i : Instr} {s t : State} (he : Executes i s t)
include he

theorem Executes.sr_cnt_eq_or : (t.sr = s.sr ∧ t.cnt = s.cnt) ∨ i = .read ∨ i = .bitSample := by
  cases he <;> simp [driveHighRelease_eq, finishRead_eq]

theorem Executes.rh_temp_eq_or : (t.rh = s.rh ∧ t.temp = s.temp) ∨ i = .decode ∨ i = .failed := by
  cases he <;> simp [driveHighRelease_eq, finishRead_eq]

theorem Executes.cause_eq_or : t.cause = s.cause ∨ i = .read ∨ i = .awaitAck0 ∨ i = .awaitAck1 ∨ i = .awaitAckEnd ∨
    i = .bitWaitRise ∨ i = .bitWaitFall ∨ i = .decode := by
  cases he <;> simp [driveHighRelease_eq, finishRead_eq]

theorem Executes.mode_eq_or :
    t.mode = s.mode ∨ i = .init ∨ i = .read ∨ i = .releaseHigh ∨ i = .finalize ∨ i.format = .prim := by
  cases he <;> simp [Instr.format]

theorem Executes.bound_eq_or : t.bound = s.bound ∨ i = .init := by
  cases he <;> simp [driveHighRelease_eq, finishRead_eq]

theorem Executes.refusalMark_eq_or : t.refusalMark = s.refusalMark ∨ i = .init ∨ i = .read := by
  cases he <;> simp [driveHighRelease_eq, finishRead_eq]

theorem Executes.fsm_eq_of_prim (hi : i.format = .prim) : t.fsm = s.fsm := by
  cases he <;> simp [Instr.format] at hi <;> simp [driveHighRelease_eq]

theorem Executes.bookkeeping_eq :
    t.cfg = s.cfg ∧ t.faultMark = s.faultMark ∧ t.agenda = s.agenda ∧ t.hostGot = s.hostGot := by
  cases he <;> simp [driveHighRelease_eq, finishRead_eq]

end writers

/-- Settles O49, register by register. -/
theorem eachRegisterHasItsWriters : Obligations.EachRegisterHasItsWriters := by
  intro i s t h
  have he := executes_of_exec h
  exact ⟨fun hne => he.sr_cnt_eq_or.resolve_left (not_and_or.mpr hne),
    fun hne => he.rh_temp_eq_or.resolve_left (not_and_or.mpr hne), he.cause_eq_or.resolve_left,
    he.mode_eq_or.resolve_left, he.bound_eq_or.resolve_left, he.refusalMark_eq_or.resolve_left, he.fsm_eq_of_prim,
    he.bookkeeping_eq⟩

/-! ### What a step does when no bare primitive is listed -/

/-- An agent of the spec can run `i` in `s`: it is a host command, or the rule of the block's current state (R201). -/
def SpecMove (i : Instr) (s : State) : Prop := i.format = .cmd ∨ .ustate s.fsm = encode i

/-- Fetching changes the agenda alone. -/
theorem fetch_eq (s : State) : ∃ rest, (∀ turn, turn ∈ rest → turn ∈ s.agenda) ∧ (fetch s).2 = endTurn rest s := by
  obtain hf | ⟨turn, rest, ha, hf⟩ := fetch_state s
  · exact ⟨s.agenda, fun _ => id, hf⟩
  · exact ⟨rest, by simp +contextual [ha], hf⟩

/-- A step takes one turn, and then an agent of the spec moves, a host move is refused, or GET latches the ports. -/
theorem step_cases_of_primitiveFree {s t : State} (hp : PrimitiveFree s) (h : step s = .next t) :
    ∃ rest, (∀ turn, turn ∈ rest → turn ∈ s.agenda) ∧
      ((∃ i, SpecMove i (endTurn rest s) ∧ Executes i (endTurn rest s) t) ∨
       (∃ r, t = refuse r (endTurn rest s)) ∨ t = latchPorts (endTurn rest s)) := by
  obtain ⟨rest, hrest, hu⟩ := fetch_eq s
  refine ⟨rest, hrest, ?_⟩
  rw [← hu]
  obtain ⟨_, ⟨w, i, hw, hd, he⟩ | ⟨_, _, _, rfl⟩ | ⟨_, _, rfl⟩ | ⟨_, _, _, rfl⟩⟩ := step_cases h
  · refine .inl ⟨i, ?_, executes_of_exec he⟩
    obtain hm | ⟨c, hm⟩ | hm | ⟨p, n, hm, hin⟩ := fetch_move s
    · cases hw.symm.trans hm
      exact .inr (by simpa [hu] using (encode_of_decodeState _ _ hd).symm)
    · cases hw.symm.trans hm
      obtain ⟨_, rfl⟩ | ⟨_, rfl⟩ | ⟨_, rfl⟩ := decodeCommand_cases _ _ hd <;> exact .inl rfl
    · cases hw.symm.trans hm
    · exact absurd hin (hp p n)
  · exact .inr (.inl ⟨_, rfl⟩)
  · exact .inr (.inl ⟨_, rfl⟩)
  · exact .inr (.inr rfl)

/-! ### The state graph (R21) -/

/-- The edges of R21. -/
def stateGraph : List (FsmWord × FsmWord) :=
  [(Fsm.idle, Fsm.wakeLow), (Fsm.wakeLow, Fsm.releaseHigh), (Fsm.releaseHigh, Fsm.awaitAck0),
   (Fsm.awaitAck0, Fsm.awaitAck1), (Fsm.awaitAck0, Fsm.failed), (Fsm.awaitAck1, Fsm.awaitAckEnd),
   (Fsm.awaitAck1, Fsm.failed), (Fsm.awaitAckEnd, Fsm.ready), (Fsm.awaitAckEnd, Fsm.failed),
   (Fsm.ready, Fsm.bitWaitRise), (Fsm.bitWaitRise, Fsm.bitSample), (Fsm.bitWaitRise, Fsm.failed),
   (Fsm.bitSample, Fsm.bitWaitRise), (Fsm.bitSample, Fsm.bitWaitFall), (Fsm.bitSample, Fsm.decode),
   (Fsm.bitWaitFall, Fsm.bitWaitRise), (Fsm.bitWaitFall, Fsm.decode), (Fsm.bitWaitFall, Fsm.failed),
   (Fsm.decode, Fsm.finalize), (Fsm.decode, Fsm.failed), (Fsm.failed, Fsm.finalize),
   (Fsm.finalize, Fsm.idle)]

/-- A wait has an edge to FAILED, and is not DECODE. -/
theorem fails_of_isWait : ∀ f, isWait f = true → (f, Fsm.failed) ∈ stateGraph ∧ f ≠ Fsm.decode := by decide

/-- From `f` to `g` is no move or an edge, and an optional edge to FAILED only under its option in `c`. -/
def FollowsGraph (c : Config) (f g : FsmWord) : Prop :=
  (g = f ∨ (f, g) ∈ stateGraph) ∧
  (isWait f = true → g = Fsm.failed → waitBound c f ≠ none) ∧
  (f = Fsm.decode → g = Fsm.failed → c.verifyChecksum = true)

namespace FollowsGraph

variable {c : Config} {f g : FsmWord}

theorem refl : FollowsGraph c f f :=
  ⟨.inl rfl, fun hw hf => absurd hw (by simp [hf, isWait]), fun hd hf => absurd (hd.symm.trans hf) (by decide)⟩

/-- Away from FAILED an edge needs no option. -/
theorem of_edge (h : (f, g) ∈ stateGraph) (hg : g ≠ Fsm.failed) : FollowsGraph c f g :=
  ⟨.inr h, fun _ hf => absurd hf hg, fun _ hf => absurd hf hg⟩

/-- A poll leaves by its exit, stays, or, when it is bounded, fails. -/
theorem poll {s : State} {level : Bool} {bound : Option Nat} {exit again : FsmWord} (hf : s.fsm = again)
    (hw : isWait again = true) (hb : waitBound s.cfg again = bound) (hx : (again, exit) ∈ stateGraph)
    (hn : exit ≠ Fsm.failed) :
    FollowsGraph s.cfg s.fsm (poll level bound exit again s).fsm := by
  subst hf
  obtain ⟨hfail, hdec⟩ := fails_of_isWait _ hw
  obtain ⟨_, hp⟩ | ⟨_, _, hp⟩ | ⟨b, _, hs, _, hp⟩ | ⟨b, _, _, _, hp⟩ := poll_cases level bound exit s.fsm s <;>
    rw [hp]
  · exact of_edge hx hn
  · exact refl
  · exact ⟨.inr hfail, fun _ _ => by simp [hb, hs], fun hd => absurd hd hdec⟩
  · exact refl

end FollowsGraph

/-- An operation that an agent of the spec runs follows the graph. -/
theorem Executes.followsGraph {i : Instr} {s t : State} (he : Executes i s t) (hm : SpecMove i s) :
    FollowsGraph s.cfg s.fsm t.fsm := by
  cases he <;> simp [SpecMove, Instr.format, encode] at hm
  case nop | initBusy | init | readBusy | readUnbound | idle => exact .refl
  case read hf _ =>
    rw [hf, goto_fsm]
    exact .of_edge (by decide) (by decide)
  case mismatch hv _ => exact ⟨.inr (by simp [hm, stateGraph]), by simp [hm, isWait], fun _ _ => hv⟩
  case noResponse | ackMissing => exact ⟨.inr (by simp [hm, stateGraph]), by simp [hm, isWait], by simp [hm]⟩
  case awaitAckEnd | bitWaitRise => exact .poll hm (by decide) rfl (by decide) (by decide)
  case bitWaitFall =>
    refine .poll hm (by decide) rfl ?_ ?_ <;> rw [afterBit_eq] <;> split_ifs <;> decide
  case bitZero =>
    rw [hm, goto_fsm, afterBit_eq]
    split_ifs <;> exact .of_edge (by decide) (by decide)
  case finalize =>
    rw [hm]
    show FollowsGraph s.cfg _ Fsm.idle
    exact .of_edge (by decide) (by decide)
  all_goals
    rw [hm, goto_fsm]
    exact .of_edge (by decide) (by decide)

/-- Settles O50: an agent of the spec follows the graph; a refusal and a GET leave `fsm`. -/
theorem stepsFollowTheStateGraph : Obligations.StepsFollowTheStateGraph := by
  intro s t h hs
  obtain ⟨rest, _, ⟨i, hm, he⟩ | ⟨r, rfl⟩ | rfl⟩ := step_cases_of_primitiveFree h.primitiveFree hs
  · exact he.followsGraph hm
  · exact FollowsGraph.refl (c := s.cfg)
  · exact FollowsGraph.refl (c := s.cfg)

/-! ### The invariants by phases of a read -/

/-- The fields of `StateInvariant` that do not name `fsm`. -/
structure RegisterInvariant (s : State) : Prop where
  countBound : s.causeWritten = true → s.cnt.toNat ≤ 40
  frameBound : s.causeWritten = true → s.sr.toNat < 2 ^ s.cnt.toNat
  causeLegal : s.causeWritten = true → s.cause.toNat ≤ 4
  hangOnlyBounded : s.causeWritten = true → s.cause = Cause.transmissionHang →
    s.cfg.boundAckEnd ≠ none ∨ s.cfg.boundRise ≠ none ∨ s.cfg.boundFall ≠ none
  mismatchOnlyVerified : s.causeWritten = true → s.cause = Cause.checksumMismatch →
    s.cfg.verifyChecksum = true ∧ checksumOk s.sr = false
  handshakeFailure : s.causeWritten = true →
    s.cause = Cause.handshakeNoResponse ∨ s.cause = Cause.handshakeAckMissing → s.sr = 0#40
  tagsTogether : s.rhWritten = s.tempWritten
  primitiveFree : PrimitiveFree s

/-- What final results are. -/
structure ResultsSettled (s : State) : Prop where
  finalWritten : s.rhWritten = true
  sentinel : s.cause ≠ Cause.ok → s.rh = 0#16 ∧ s.temp = 0#16
  decoded : s.cause = Cause.ok →
    s.cnt.toNat = 40 ∧ s.rh = humidityField s.sr ∧ s.temp = temperatureWord (temperatureField s.sr) ∧
      (s.cfg.verifyChecksum = true → checksumOk s.sr = true)

/-- What holds of a read going on. -/
structure InRead (s : State) : Prop where
  bound : s.bound = true
  tagged : s.causeWritten = true

/-- R33 (c): the count each state of the bit loop has, and DECODE. -/
def CountFits (f : FsmWord) (c : CountWord) : Prop :=
  (f = Fsm.bitWaitRise ∨ f = Fsm.bitSample) ∧ c.toNat < 40 ∨
    f = Fsm.bitWaitFall ∧ 1 ≤ c.toNat ∧ c.toNat ≤ 40 ∨ f = Fsm.decode ∧ c.toNat = 40

/-- What the invariants say in each phase: outside a read, the wake pulse, the acknowledgments, the bits, a failed read,
and FINALIZE. -/
inductive Phase (s : State) : Prop where
  | resting (fsm : s.fsm = Fsm.idle) (line : s.bound = true → s.mode = .idle)
      (results : s.causeWritten = true → ResultsSettled s)
  | waking (fsm : s.fsm = Fsm.wakeLow ∨ s.fsm = Fsm.releaseHigh) (read : InRead s) (line : s.mode = .drivingLow)
      (ok : s.cause = Cause.ok) (sr : s.sr = 0#40) (cnt : s.cnt = 0#6)
  | shaking (fsm : s.fsm = Fsm.awaitAck0 ∨ s.fsm = Fsm.awaitAck1 ∨ s.fsm = Fsm.awaitAckEnd ∨ s.fsm = Fsm.ready)
      (read : InRead s) (line : s.mode = .listening) (ok : s.cause = Cause.ok) (sr : s.sr = 0#40) (cnt : s.cnt = 0#6)
  | receiving (fsm : CountFits s.fsm s.cnt) (read : InRead s) (line : s.mode = .listening) (ok : s.cause = Cause.ok)
  | failing (fsm : s.fsm = Fsm.failed) (read : InRead s) (line : s.mode = .listening) (cause : s.cause ≠ Cause.ok)
  | publishing (fsm : s.fsm = Fsm.finalize) (read : InRead s) (line : s.mode = .listening) (results : ResultsSettled s)

/-- Every field of `StateInvariant` that a phase does not speak of is vacuous in it. -/
theorem Phase.invariant {s : State} (r : RegisterInvariant s) (p : Phase s) : StateInvariant s := by
  cases p with
  | resting hf hl hr =>
    refine { r with
      restsIdle := fun _ => hl
      finalWritten := fun h => (hr (h.resolve_left (by simp [hf])).2).finalWritten
      sentinel := fun h => (hr (h.resolve_left (by simp [hf])).2).sentinel
      decoded := fun h => (hr (h.resolve_left (by simp [hf])).2).decoded
      legalCode := ?_, boundInRead := ?_, wakeDrivesLow := ?_, listens := ?_, riseCount := ?_, fallCount := ?_,
      decodeCount := ?_, handshakeClear := ?_, readTagged := ?_, causeClear := ?_, causeFailed := ?_ } <;> simp [hf]
  | waking hf hr hl hc hsr hcnt =>
    refine { r with
      boundInRead := fun _ => hr.bound, readTagged := fun _ => hr.tagged
      wakeDrivesLow := fun _ => hl, handshakeClear := fun _ => ⟨hsr, hcnt⟩, causeClear := fun _ => hc
      legalCode := ?_, listens := ?_, restsIdle := ?_, riseCount := ?_, fallCount := ?_, decodeCount := ?_,
      causeFailed := ?_, finalWritten := ?_, sentinel := ?_, decoded := ?_ } <;>
    rcases hf with hf | hf <;> simp [hf, ResultsFinal]
  | shaking hf hr hl hc hsr hcnt =>
    refine { r with
      boundInRead := fun _ => hr.bound, readTagged := fun _ => hr.tagged
      listens := fun _ => hl, handshakeClear := fun _ => ⟨hsr, hcnt⟩, causeClear := fun _ => hc
      legalCode := ?_, wakeDrivesLow := ?_, restsIdle := ?_, riseCount := ?_, fallCount := ?_, decodeCount := ?_,
      causeFailed := ?_, finalWritten := ?_, sentinel := ?_, decoded := ?_ } <;>
    rcases hf with hf | hf | hf | hf <;> simp [hf, ResultsFinal]
  | receiving hf hr hl hc =>
    refine { r with
      boundInRead := fun _ => hr.bound, readTagged := fun _ => hr.tagged
      listens := fun _ => hl, causeClear := fun _ => hc
      legalCode := ?_, wakeDrivesLow := ?_, restsIdle := ?_, riseCount := ?_, fallCount := ?_, decodeCount := ?_,
      handshakeClear := ?_, causeFailed := ?_, finalWritten := ?_, sentinel := ?_, decoded := ?_ } <;>
    rcases hf with ⟨hf | hf, hn⟩ | ⟨hf, hn⟩ | ⟨hf, hn⟩ <;> simp [hf, hn, ResultsFinal]
  | failing hf hr hl hc =>
    refine { r with
      boundInRead := fun _ => hr.bound, readTagged := fun _ => hr.tagged
      listens := fun _ => hl, causeFailed := fun _ => hc
      legalCode := ?_, wakeDrivesLow := ?_, restsIdle := ?_, riseCount := ?_, fallCount := ?_, decodeCount := ?_,
      handshakeClear := ?_, causeClear := ?_, finalWritten := ?_, sentinel := ?_, decoded := ?_ } <;>
    simp [hf, ResultsFinal]
  | publishing hf hr hl hs =>
    refine { r with
      boundInRead := fun _ => hr.bound, readTagged := fun _ => hr.tagged
      listens := fun _ => hl, finalWritten := fun _ => hs.finalWritten, sentinel := fun _ => hs.sentinel
      decoded := fun _ => hs.decoded
      legalCode := ?_, wakeDrivesLow := ?_, restsIdle := ?_, riseCount := ?_, fallCount := ?_, decodeCount := ?_,
      handshakeClear := ?_, causeClear := ?_, causeFailed := ?_ } <;> simp [hf]

theorem three_le_of_isWait : ∀ f, isWait f = true → 3 ≤ f.toNat := by decide

/-- A wait's bound is one of the three parameters. -/
theorem bounded_of_waitBound {c : Config} {f : FsmWord} {b : Nat} (h : waitBound c f = some b) :
    c.boundAckEnd ≠ none ∨ c.boundRise ≠ none ∨ c.boundFall ≠ none := by
  unfold waitBound at h
  split_ifs at h <;> simp [h]

/-- Below 40 the count does not wrap. -/
theorem cnt_succ_toNat {c : CountWord} (h : c.toNat < 40) : (c + 1#6).toNat = c.toNat + 1 := by
  simp [BitVec.toNat_add]
  omega

/-- The state after a complete bit fits the count. -/
theorem countFits_afterBit {c : CountWord} (h : c.toNat ≤ 40) : CountFits (afterBit c) c := by
  rw [afterBit_eq]
  split_ifs with hc
  · exact .inr (.inr ⟨rfl, hc⟩)
  · exact .inl ⟨.inl rfl, by omega⟩

/-- A frame below `2^n` is below `2^(n+1)` after a shift (R33 d). -/
theorem shift40_toNat_lt {s : FrameWord} {n : Nat} (v : Bool) (h : s.toNat < 2 ^ n) :
    (shift40 s v).toNat < 2 ^ (n + 1) := by
  have hv := v.toNat_lt
  calc (shift40 s v).toNat ≤ 2 * s.toNat + v.toNat := shift40_toNat s v ▸ Nat.mod_le _ _
    _ < 2 ^ (n + 1) := by omega

section keeps

variable {s : State} (h : StateInvariant s)
include h

theorem StateInvariant.endTurn {rest : List Turn} (hr : ∀ turn, turn ∈ rest → turn ∈ s.agenda) :
    StateInvariant (endTurn rest s) :=
  { h with primitiveFree := fun w n hm => h.primitiveFree w n (hr _ hm) }

theorem StateInvariant.refuse (r : RefusalReason) : StateInvariant (refuse r s) := { h with }

theorem StateInvariant.latchPorts : StateInvariant (latchPorts s) := { h with }

theorem StateInvariant.delay (n : Nat) : StateInvariant (delay n s) := { h with }

theorem StateInvariant.sampled : StateInvariant (sampled s) := { h with }

theorem StateInvariant.timeoutAsked (b : Nat) : StateInvariant (timeoutAsked b s) := { h with }

theorem StateInvariant.stay : StateInvariant (goto s.fsm s) := h

theorem StateInvariant.inRead (hf : s.fsm ≠ Fsm.idle) : InRead s := ⟨h.boundInRead hf, h.readTagged hf⟩

theorem StateInvariant.inRead_of_three_le (hf : 3 ≤ s.fsm.toNat) : InRead s :=
  h.inRead fun hi => by simp [hi] at hf

theorem StateInvariant.settled (hf : ResultsFinal s) : ResultsSettled s :=
  ⟨h.finalWritten hf, h.sentinel hf, h.decoded hf⟩

/-- Outside a read INIT touches no result. -/
theorem StateInvariant.init (hf : s.fsm = Fsm.idle) :
    StateInvariant (setMode .idle (bindLine (emit (.cmd .init) s))) :=
  Phase.invariant { h with } (.resting hf (fun _ => rfl) fun hw => { h.settled (.inr ⟨hf, hw⟩) with })

/-- READ clears the datapath and `cause` and starts the wake pulse (R204). -/
theorem StateInvariant.read (hb : s.bound = true) :
    StateInvariant (goto Fsm.wakeLow (setMode .drivingLow (writeCause Cause.ok (clearFrame (emit (.cmd .read) s))))) :=
  Phase.invariant
    { h with
      countBound := by simp, frameBound := by simp, causeLegal := by simp, hangOnlyBounded := by simp
      mismatchOnlyVerified := by simp, handshakeFailure := by simp }
    (.waking (.inl rfl) ⟨hb, rfl⟩ rfl rfl rfl rfl)

/-- A failure raised while listening: its code must fit the configuration and the frame (R75, R179, R220). -/
theorem StateInvariant.raiseFailure (hf : 3 ≤ s.fsm.toNat) {c : CauseWord} (hc : c.toNat ≤ 4) (hok : c ≠ Cause.ok)
    (hang : c = Cause.transmissionHang →
      s.cfg.boundAckEnd ≠ none ∨ s.cfg.boundRise ≠ none ∨ s.cfg.boundFall ≠ none)
    (mismatch : c = Cause.checksumMismatch → s.cfg.verifyChecksum = true ∧ checksumOk s.sr = false)
    (handshake : c = Cause.handshakeNoResponse ∨ c = Cause.handshakeAckMissing → s.sr = 0#40) :
    StateInvariant (raiseFailure c s) :=
  have hr := h.inRead_of_three_le hf
  Phase.invariant
    { h with
      countBound := fun _ => h.countBound hr.tagged, frameBound := fun _ => h.frameBound hr.tagged
      causeLegal := fun _ => hc, hangOnlyBounded := fun _ => hang, mismatchOnlyVerified := fun _ => mismatch
      handshakeFailure := fun _ => handshake }
    (.failing rfl ⟨hr.bound, rfl⟩ (h.listens hf) hok)

/-- From one state of the acknowledgments to another, the line and the datapath stay as they are. -/
theorem StateInvariant.shake (hf : 3 ≤ s.fsm.toNat ∧ s.fsm.toNat ≤ 6) {f : FsmWord}
    (hx : f = Fsm.awaitAck0 ∨ f = Fsm.awaitAck1 ∨ f = Fsm.awaitAckEnd ∨ f = Fsm.ready) :
    StateInvariant (goto f s) := by
  obtain ⟨hsr, hcnt⟩ := h.handshakeClear (by omega)
  exact Phase.invariant { h with } (.shaking hx { h.inRead_of_three_le hf.1 with } (h.listens hf.1)
    (h.causeClear (by omega)) hsr hcnt)

/-- From READY or a state of the bit loop to one that the count fits. -/
theorem StateInvariant.receive (hf : 3 ≤ s.fsm.toNat ∧ s.fsm.toNat ≤ 10) {f : FsmWord} (hx : CountFits f s.cnt) :
    StateInvariant (goto f s) :=
  Phase.invariant { h with } (.receiving hx { h.inRead_of_three_le hf.1 with } (h.listens hf.1)
    (h.causeClear (by omega)))

/-- A poll keeps the invariants when its exit does: a stay changes no register, and a hang needs a bound. -/
theorem StateInvariant.poll {level : Bool} {bound : Option Nat} {exit again : FsmWord} (hf : s.fsm = again)
    (hw : isWait again = true) (hb : waitBound s.cfg again = bound)
    (hx : StateInvariant (goto exit (Machine.sampled s))) :
    StateInvariant (poll level bound exit again s) := by
  subst hf
  obtain ⟨_, hp⟩ | ⟨_, _, hp⟩ | ⟨b, _, hs, _, hp⟩ | ⟨b, _, _, _, hp⟩ := poll_cases level bound exit s.fsm s <;>
    rw [hp]
  · exact hx
  · exact h.sampled.stay
  · exact (h.sampled.timeoutAsked b).raiseFailure (three_le_of_isWait _ hw) (by decide) (by decide)
      (fun _ => bounded_of_waitBound (hb.trans hs)) (fun hc => absurd hc (by decide)) (fun hc => absurd hc (by decide))
  · exact (h.sampled.timeoutAsked b).stay

/-- A bit more fits the count (R33 c, d). -/
theorem StateInvariant.bitSampled (hf : s.fsm = Fsm.bitSample) (v : Bool) {f : FsmWord}
    (hfit : CountFits f (s.cnt + 1#6)) :
    StateInvariant (goto f (shiftIn v (Machine.sampled (Machine.delay s.cfg.tBit s)))) := by
  have hr := h.inRead (by simp [hf])
  have hok : s.cause = Cause.ok := h.causeClear (by simp [hf])
  have hcnt := cnt_succ_toNat (h.riseCount (.inr hf))
  have hsr := h.frameBound hr.tagged
  refine Phase.invariant { h with
    countBound := fun _ => ?_
    frameBound := fun _ => ?_
    mismatchOnlyVerified := fun _ hc => absurd (hok.symm.trans hc) (by decide)
    handshakeFailure := fun _ hc => absurd hc (by simp [hok]) }
    (.receiving hfit { hr with } (h.listens (by simp [hf])) hok)
  · have := h.riseCount (.inr hf)
    simp only [goto_cnt, shiftIn_cnt, sampled_cnt, delay_cnt, hcnt]
    omega
  · simpa only [goto_sr, goto_cnt, shiftIn_sr, shiftIn_cnt, sampled_sr, sampled_cnt, delay_sr, delay_cnt, hcnt]
      using shift40_toNat_lt v hsr

end keeps

/-- An operation that an agent of the spec runs keeps the invariants. -/
theorem Executes.keepsInvariant {i : Instr} {s t : State} (he : Executes i s t) (hm : SpecMove i s)
    (h : StateInvariant s) : StateInvariant t := by
  cases he <;> simp [SpecMove, Instr.format, encode] at hm
  case nop | idle => exact h
  case initBusy | readBusy | readUnbound => exact h.refuse _
  case init hf => exact h.init hf
  case read hb => exact h.read hb
  case wakeLow =>
    obtain ⟨hsr, hcnt⟩ := h.handshakeClear (by simp [hm])
    exact Phase.invariant { h with } (.waking (.inr rfl) { h.inRead (by simp [hm]) with }
      (h.wakeDrivesLow (.inl hm)) (h.causeClear (by simp [hm])) hsr hcnt)
  case releaseHigh =>
    obtain ⟨hsr, hcnt⟩ := h.handshakeClear (by simp [hm])
    exact Phase.invariant { h with } (.shaking (.inl rfl) { h.inRead (by simp [hm]) with } rfl
      (h.causeClear (by simp [hm])) hsr hcnt)
  case noResponse | ackMissing =>
    exact (h.delay _).sampled.raiseFailure (by simp [hm]) (by decide) (by decide) (fun hc => absurd hc (by decide))
      (fun hc => absurd hc (by decide)) fun _ => (h.handshakeClear (by simp [hm])).1
  case awaitAck0 | awaitAck1 => exact (h.delay _).sampled.shake (by simp [hm]) (by decide)
  case awaitAckEnd => exact h.poll hm (by decide) rfl (h.sampled.shake (by simp [hm]) (by decide))
  case ready =>
    obtain ⟨_, hcnt⟩ := h.handshakeClear (by simp [hm])
    exact h.receive (by simp [hm]) (.inl ⟨.inl rfl, by simp [hcnt]⟩)
  case bitWaitRise =>
    exact h.poll hm (by decide) rfl
      (h.sampled.receive (by simp [hm]) (.inl ⟨.inr rfl, h.riseCount (.inl hm)⟩))
  case bitOne =>
    have hcnt := h.riseCount (.inr hm)
    exact h.bitSampled hm true (.inr (.inl ⟨rfl, by rw [cnt_succ_toNat hcnt]; omega⟩))
  case bitZero =>
    have hcnt := h.riseCount (.inr hm)
    exact h.bitSampled hm false (countFits_afterBit (by rw [cnt_succ_toNat hcnt]; omega))
  case bitWaitFall =>
    obtain ⟨_, hcnt⟩ := h.fallCount hm
    exact h.poll hm (by decide) rfl (h.sampled.receive (by simp [hm]) (countFits_afterBit hcnt))
  case mismatch hv hc =>
    exact h.raiseFailure (by simp [hm]) (by decide) (by decide) (fun hc => absurd hc (by decide)) (fun _ => ⟨hv, hc⟩)
      (fun hc => absurd hc (by decide))
  case accepted ha =>
    have hok : s.cause = Cause.ok := h.causeClear (by simp [hm])
    exact Phase.invariant { h with tagsTogether := rfl } (.publishing rfl { h.inRead (by simp [hm]) with }
      (h.listens (by simp [hm])) ⟨rfl, fun hc => absurd hok hc, fun _ => ⟨h.decodeCount hm, rfl, rfl, ha⟩⟩)
  case failed =>
    exact Phase.invariant { h with tagsTogether := rfl } (.publishing rfl { h.inRead (by simp [hm]) with }
      (h.listens (by simp [hm])) ⟨rfl, fun _ => ⟨rfl, rfl⟩, fun hc => absurd hc (h.causeFailed hm)⟩)
  case finalize =>
    exact Phase.invariant { h with } (.resting rfl (fun _ => rfl) fun _ => { h.settled (.inl hm) with })

/-- Settles O44: the step's turn is taken, and what an agent of the spec then runs keeps the invariants. -/
theorem stepKeepsTheInvariants : Obligations.StepKeepsTheInvariants := by
  intro s t h hs
  obtain ⟨rest, hrest, ⟨i, hm, he⟩ | ⟨r, rfl⟩ | rfl⟩ := step_cases_of_primitiveFree h.primitiveFree hs
  · exact he.keepsInvariant hm (h.endTurn hrest)
  · exact (h.endTurn hrest).refuse r
  · exact (h.endTurn hrest).latchPorts

/-- Settles O43: nothing is written, and the block rests unbound. -/
theorem resetSatisfiesTheInvariants : Obligations.ResetSatisfiesTheInvariants := fun _ _ =>
  Phase.invariant ⟨nofun, nofun, nofun, nofun, nofun, nofun, rfl, nofun⟩ (.resting rfl nofun nofun)

/-! ### Samples (R33 b, R106) -/

/-- Every outcome that samples is one of a listening state, and sets no line mode. -/
theorem Executes.listens_of_sample {i : Instr} {s t : State} (he : Executes i s t) (hm : SpecMove i s) {v : Bool}
    (hv : .sample v ∈ newEvents s t) : 3 ≤ s.fsm.toNat ∧ t.mode = s.mode := by
  cases he <;> simp [SpecMove, Instr.format, encode] at hm
  case noResponse | awaitAck0 | ackMissing | awaitAck1 | awaitAckEnd | bitWaitRise | bitOne | bitZero | bitWaitFall =>
    simp [hm]
  all_goals simp [newEvents, driveHighRelease_eq, finishRead_eq] at hv

/-- Settles O51: from AWAIT_ACK0 on the invariants have the line listen; a refusal and a GET append no event. -/
theorem samplesOnlyWhileListening : Obligations.SamplesOnlyWhileListening := by
  intro s t v h hs hv
  obtain ⟨rest, _, ⟨i, hm, he⟩ | ⟨r, rfl⟩ | rfl⟩ := step_cases_of_primitiveFree h.primitiveFree hs
  · obtain ⟨hf, ht⟩ := he.listens_of_sample hm hv
    exact ⟨h.listens hf, ht.trans (h.listens hf)⟩
  · simp [newEvents] at hv
  · simp [newEvents] at hv

end Sys2Proof.Machine
end

section
/-! PROOFS. The event history (spec/20_memory.md R55, R62): a step only appends events, and `SetMode`, the one writer of the
line mode, appends the event that says so (10_state.md R25). -/

namespace Sys2Proof.Machine

/-- Events in two parts set the mode one part after the other. -/
theorem modeAfter_append (m : LineState) (es fs : List Event) :
    modeAfter m (es ++ fs) = modeAfter (modeAfter m es) fs := by
  induction es generalizing m with
  | nil => rfl
  | cons e es ih => cases e <;> exact ih _

/-- From `s` to `t` the history only grew, and the line mode is what the appended events make of it. It speaks of `hist`
and `mode` alone, so an update of other fields leaves it the same proposition. -/
def ModeFollows (s t : State) : Prop :=
  ∃ events, t.hist = s.hist ++ events ∧ t.mode = modeAfter s.mode events

namespace ModeFollows

theorem refl (s : State) : ModeFollows s s := ⟨[], (List.append_nil _).symm, rfl⟩

section updates

variable {s t : State} (h : ModeFollows s t)
include h

/-- One event more, with the mode it makes. -/
theorem append {u : State} {e : Event} (hh : u.hist = t.hist ++ [e]) (hm : u.mode = modeAfter t.mode [e]) :
    ModeFollows s u := by
  obtain ⟨es, hhist, hmode⟩ := h
  exact ⟨es ++ [e], by rw [hh, hhist, List.append_assoc], by rw [hm, hmode, modeAfter_append]⟩

theorem cmd (c : RecordedCommand) : ModeFollows s (emit (.cmd c) t) := h.append rfl rfl

theorem setMode (m : LineState) : ModeFollows s (setMode m t) := h.append rfl rfl

theorem delay (n : Nat) : ModeFollows s (delay n t) := h.append rfl rfl

theorem sampled : ModeFollows s (sampled t) := h.append rfl rfl

theorem timeoutAsked (b : Nat) : ModeFollows s (timeoutAsked b t) := h.append rfl rfl

theorem driveHighRelease (n : Nat) : ModeFollows s (driveHighRelease n t) :=
  ((h.setMode .drivingHigh).delay n).setMode .listening

/-- The return sets the line idle before it emits `Done` (R178). -/
theorem finishRead : ModeFollows s (finishRead t) := (h.setMode .idle).append rfl rfl

/-- A poll appends its sample, and the clock's answer when it asks. -/
theorem poll (exitLevel : Bool) (bound : Option Nat) (exit again : FsmWord) :
    ModeFollows s (poll exitLevel bound exit again t) := by
  obtain ⟨_, hp⟩ | ⟨_, _, hp⟩ | ⟨b, _, _, _, hp⟩ | ⟨b, _, _, _, hp⟩ := poll_cases exitLevel bound exit again t <;> rw [hp]
  · exact h.sampled
  · exact h.sampled
  · exact h.sampled.timeoutAsked b
  · exact h.sampled.timeoutAsked b

end updates

end ModeFollows

/-- Each outcome of an operation, by the events it appends. -/
theorem Executes.modeFollows {i : Instr} {s t : State} (he : Executes i s t) : ModeFollows s t := by
  have h := ModeFollows.refl s
  cases he
  case nop | initBusy | readBusy | readUnbound | idle | ready | mismatch | accepted | failed => exact h
  case init => exact (h.cmd .init).setMode .idle
  case read => exact (h.cmd .read).setMode .drivingLow
  case wakeLow => exact h.delay _
  case releaseHigh => exact h.driveHighRelease _
  case noResponse | awaitAck0 | ackMissing | awaitAck1 | bitOne | bitZero => exact (h.delay _).sampled
  case awaitAckEnd | bitWaitRise | bitWaitFall => exact h.poll ..
  case finalize => exact h.finishRead
  case driveLow | release | idleHigh => exact h.setMode _
  case driveHighRelease n => exact h.driveHighRelease n
  case sample => exact h.sampled
  case delay n => exact h.delay n
  case elapsed b => exact h.timeoutAsked b

/-- A step takes at most one turn, and then an operation runs, a host move is refused, or GET latches the ports. -/
theorem step_outcomes {s t : State} (h : step s = .next t) :
    ∃ rest, (∃ i, Executes i (endTurn rest s) t) ∨ (∃ r, t = refuse r (endTurn rest s)) ∨
      t = latchPorts (endTurn rest s) := by
  obtain ⟨rest, _, hu⟩ := fetch_eq s
  refine ⟨rest, ?_⟩
  rw [← hu]
  obtain ⟨_, ⟨_, i, _, _, he⟩ | ⟨_, _, _, ht⟩ | ⟨_, _, ht⟩ | ⟨_, _, _, ht⟩⟩ := step_cases h
  · exact .inl ⟨i, executes_of_exec he⟩
  · exact .inr (.inl ⟨_, ht⟩)
  · exact .inr (.inl ⟨_, ht⟩)
  · exact .inr (.inr ht)

/-- Settles O47: an operation appends its events; taking a turn, a refusal and a GET append none and leave the mode. -/
theorem modeFollowsTheHistory : Obligations.ModeFollowsTheHistory := by
  intro s t h
  obtain ⟨rest, ⟨i, he⟩ | ⟨r, rfl⟩ | rfl⟩ := step_outcomes h
  · exact he.modeFollows
  · exact ModeFollows.refl s
  · exact ModeFollows.refl s

end Sys2Proof.Machine
end

section
/-! PROOFS. The codes (spec/30_encoding.md R70 to R74, R79, R80): decoder and encoder are inverse to each other, a table
row's bits spell that row, which codes are reserved, and the line modes. -/

namespace Sys2Proof

/-! ### The decoder and the encoder -/

/-- Every row decodes from the code the tables give it. -/
theorem decode_encode (i : Instr) : decode (encode i) = some i := by
  cases i <;> rfl

/-- An operation without operand is spelled with operand 0 alone (log entry 12). -/
theorem withoutOperand_eq_some_iff {i j : Instr} {n : Nat} : withoutOperand i n = some j ↔ n = 0 ∧ i = j := by
  cases n <;> simp [withoutOperand]

/-- A decoded primitive is one of the seven, and the four without operand have operand 0 (R74). -/
theorem decodePrimitive_cases {p : BitVec 3} {n : Nat} {i : Instr} (h : decodePrimitive p n = some i) :
    (p = 0b000#3 ∧ n = 0 ∧ i = .driveLow) ∨ (p = 0b001#3 ∧ i = .driveHighRelease n) ∨
    (p = 0b010#3 ∧ n = 0 ∧ i = .release) ∨ (p = 0b011#3 ∧ n = 0 ∧ i = .sample) ∨
    (p = 0b100#3 ∧ n = 0 ∧ i = .idleHigh) ∨ (p = 0b101#3 ∧ i = .delay n) ∨ (p = 0b110#3 ∧ i = .elapsed n) := by
  have hp : ∀ p : BitVec 3, p = 0b000#3 ∨ p = 0b001#3 ∨ p = 0b010#3 ∨ p = 0b011#3 ∨ p = 0b100#3 ∨ p = 0b101#3 ∨
      p = 0b110#3 ∨ p = 0b111#3 := by decide
  rcases hp p with rfl | rfl | rfl | rfl | rfl | rfl | rfl | rfl <;>
    simp [decodePrimitive, withoutOperand_eq_some_iff] at h <;> simp [h]

/-- A word that decodes is the encoding of what it decodes to, in each of the three formats. -/
theorem encode_of_decode {w : CodeWord} {i : Instr} (h : decode w = some i) : encode i = w := by
  cases w with
  | cmd w => obtain ⟨rfl, rfl⟩ | ⟨rfl, rfl⟩ | ⟨rfl, rfl⟩ := decodeCommand_cases w i h <;> rfl
  | ustate f => exact encode_of_decodeState f i h
  | prim p n =>
    obtain ⟨rfl, rfl, rfl⟩ | ⟨rfl, rfl⟩ | ⟨rfl, rfl, rfl⟩ | ⟨rfl, rfl, rfl⟩ | ⟨rfl, rfl, rfl⟩ | ⟨rfl, rfl⟩ |
      ⟨rfl, rfl⟩ := decodePrimitive_cases h <;> rfl

/-- Settles O1: row by row one way, and format by format the other. -/
theorem decodeInvertsEncode : Obligations.DecodeInvertsEncode :=
  ⟨decode_encode, fun _ _ => encode_of_decode⟩

/-- Settles O3: each word is the encoding of the row it stands for. -/
theorem writtenWordsDecode : Obligations.WrittenWordsDecode :=
  ⟨decode_encode .nop, decode_encode .init, decode_encode .read, decode_encode .awaitAck0, decode_encode .bitSample,
    decode_encode .finalize, decode_encode (.driveHighRelease 30), decode_encode (.delay 80)⟩

/-! ### A table row's bits

The table has no bits for an operand, so a row's bits spell the row with operand 0 (log entry 12). -/

/-- The word with operand 0. -/
def CodeWord.clearOperand : CodeWord → CodeWord
  | .prim p _ => .prim p 0
  | .cmd w => .cmd w
  | .ustate f => .ustate f

/-- The operation with operand 0. -/
def Instr.clearOperand : Instr → Instr
  | .driveHighRelease _ => .driveHighRelease 0
  | .delay _ => .delay 0
  | .elapsed _ => .elapsed 0
  | i => i

theorem encode_format (i : Instr) : (encode i).format = i.format := by
  cases i <;> rfl

theorem encode_clearOperand (i : Instr) : encode i.clearOperand = (encode i).clearOperand := by
  cases i <;> rfl

theorem mnemonic_clearOperand (i : Instr) : i.clearOperand.mnemonic = i.mnemonic := by
  cases i <;> rfl

/-- A word's code, with the width of its format, spells the word up to its operand (R70). -/
theorem ofTable_code (w : CodeWord) : CodeWord.ofTable w.format.width w.code = some w.clearOperand := by
  cases w
  case cmd b | ustate b | prim b _ =>
    simp [CodeWord.ofTable, CodeWord.format, Format.width, CodeWord.code, CodeWord.clearOperand, b.isLt]

/-- A row's bits spell the encoding of the row with operand 0. -/
theorem ofTable_encode (i : Instr) :
    CodeWord.ofTable i.format.width (encode i).code = some (encode i.clearOperand) := by
  rw [← encode_format, ofTable_code, encode_clearOperand]

/-- A row's bits decode to the row with operand 0. -/
theorem decodeTableWord_encode (i : Instr) :
    decodeTableWord i.format.width (encode i).code = some i.clearOperand := by
  rw [decodeTableWord, ofTable_encode, Option.bind_some, decode_encode]

/-! ### Reserved codes (R79) -/

theorem decodeCommand_eq_none_iff : ∀ w, decodeCommand w = none ↔ w = 0b11#2 := by decide

theorem decodeState_eq_none_iff : ∀ f, decodeState f = none ↔ 13 ≤ f.toNat := by decide

theorem decodePrimitive_reserved (n : Nat) : decodePrimitive 0b111#3 n = none := rfl

theorem decodeState_of_le {f : FsmWord} (h : f.toNat ≤ 12) : ∃ i, decodeState f = some i :=
  Option.ne_none_iff_exists'.mp fun hn => absurd ((decodeState_eq_none_iff f).mp hn) (by omega)

theorem toNat_le_of_decodeState {f : FsmWord} {i : Instr} (h : decodeState f = some i) : f.toNat ≤ 12 := by
  have hn : ¬ 13 ≤ f.toNat := fun hr => by simp [(decodeState_eq_none_iff f).mpr hr] at h
  omega

/-! ### The line modes (R73, R80) -/

theorem LineState.code_ofCode : ∀ w, (LineState.ofCode w).code = w := by decide

theorem LineState.ofCode_code (m : LineState) : LineState.ofCode m.code = m := by
  cases m <;> rfl

/-- Settles O5: the rows of R73, and every 2-bit code is the code of one mode. -/
theorem lineModesSetThePad : Obligations.LineModesSetThePad :=
  ⟨⟨rfl, rfl, rfl⟩, ⟨rfl, rfl, rfl⟩, ⟨rfl, rfl, rfl⟩, ⟨rfl, rfl, rfl⟩, LineState.code_ofCode, LineState.ofCode_code⟩

end Sys2Proof

namespace Sys2Proof.Machine

/-! ### Reserved codes stop the machine (R79) -/

/-- A reserved code in `fsm` stands before any move. -/
theorem standingStop_of_reservedState {s : State} (hm : s.faultMark = none) (hc : s.cfg.legal = true)
    (hf : 13 ≤ s.fsm.toNat) : standingStop s = some (.fault .illegalState) := by
  simp [standingStop, hm, hc, (decodeState_eq_none_iff _).mpr hf]

/-- A reserved code in a written `cause` stands before any move of a legal state. -/
theorem standingStop_of_reservedCause {s : State} (hm : s.faultMark = none) (hc : s.cfg.legal = true)
    (hf : s.fsm.toNat ≤ 12) (hw : s.causeWritten = true) (hr : 5 ≤ s.cause.toNat) :
    standingStop s = some (.fault .reservedCause) := by
  obtain ⟨i, hi⟩ := decodeState_of_le hf
  simp [standingStop, hm, hc, hi, hw, reservedCause, hr]

/-- Settles O4: which codes spell nothing, and the two that stand before any move. -/
theorem reservedCodesSpellNothing : Obligations.ReservedCodesSpellNothing :=
  ⟨decodeCommand_eq_none_iff, decodeState_eq_none_iff, decodePrimitive_reserved,
    fun _ hm hc hf => step_of_standingStop (standingStop_of_reservedState hm hc hf),
    fun _ hm hc hf hw hr => step_of_standingStop (standingStop_of_reservedCause hm hc hf hw hr)⟩

/-! ### A placed word -/

/-- The state a placed word runs on: a state code stands in `fsm` (log entry 13). -/
def enterWord (w : CodeWord) (s : State) : State :=
  match w with
  | .ustate f => { s with fsm := f }
  | _ => s

theorem enterWord_clearOperand (w : CodeWord) (s : State) : enterWord w.clearOperand s = enterWord w s := by
  cases w <;> rfl

/-- A placed word is the next move, and its turn then leaves the agenda as it was. -/
theorem fetch_placeWord (w : CodeWord) (s : State) : fetch (placeWord w s) = (.word w, enterWord w s) := by
  cases w <;> rfl

/-- Placing a word that decodes makes nothing stand: a state code that decodes is not reserved. -/
theorem standingStop_placeWord {w : CodeWord} {i : Instr} {s : State} (hd : decode w = some i)
    (hs : standingStop s = none) : standingStop (placeWord w s) = none := by
  cases w with
  | cmd w => exact hs
  | prim p n => exact hs
  | ustate f =>
    obtain ⟨hm, hc, _, hcause⟩ := (standingStop_eq_none_iff s).mp hs
    exact (standingStop_eq_none_iff _).mpr ⟨hm, hc, toNat_le_of_decodeState hd, hcause⟩

/-- The next step runs a placed word. -/
theorem step_placeWord {w : CodeWord} {i : Instr} {s : State} (hd : decode w = some i) (hs : standingStop s = none) :
    step (placeWord w s) = exec i (enterWord w s) := by
  rw [step_eq_runMove (standingStop_placeWord hd hs), fetch_placeWord, runMove_word_of_decode hd]

/-- Settles O2: a row's bits spell the row with operand 0, and that word is placed and run. -/
theorem placedTableWordRunsItsRow : Obligations.PlacedTableWordRunsItsRow := by
  intro i
  refine ⟨i.clearOperand, decodeTableWord_encode i, mnemonic_clearOperand i, fun s hs => ?_⟩
  have hplace : s.withFetchWord i.format.width (encode i).code = placeWord (encode i.clearOperand) s := by
    simp only [State.withFetchWord, ofTable_encode]
  rw [hplace, step_placeWord (decode_encode _) hs, encode_clearOperand, enterWord_clearOperand]
  rfl

/-! ### What stops a step under the invariants -/

/-- Under the invariants a legal configuration without fault mark has no standing stop (R21, R75). -/
theorem StateInvariant.standingStop_eq_none {s : State} (h : StateInvariant s) (hm : s.faultMark = none)
    (hc : s.cfg.legal = true) : standingStop s = none :=
  (standingStop_eq_none_iff s).mpr ⟨hm, hc, h.legalCode, h.causeLegal⟩

/-- A word that decodes answers a next state. -/
theorem runMove_answers_next_of_decode {w : CodeWord} {i : Instr} (h : decode w = some i) (s : State) :
    ∃ t, runMove (.word w) s = .next t := by
  rw [runMove_word_of_decode h]
  exact exec_answers_next s i

/-- A command word answers a next state: its operation's, or the refusal of the reserved word (R205). -/
theorem runMove_command_answers_next (w : BitVec 2) (s : State) : ∃ t, runMove (.word (.cmd w)) s = .next t := by
  cases hd : decode (.cmd w) with
  | some i => exact runMove_answers_next_of_decode hd s
  | none => exact ⟨refuse .reservedCommand s, by simp [runMove, hd, reservedWord]⟩

/-- GET stops only in IDLE, on an unwritten result (R207). -/
theorem hostGet_answers_next_or (s : State) :
    (∃ t, hostGet s = .next t) ∨ hostGet s = .fault .readUnwritten ∧ s.fsm = Fsm.idle ∧ resultsWritten s = false := by
  obtain ⟨_, hg⟩ | ⟨_, _, hg⟩ | ⟨hb, hr, hg⟩ := hostGet_cases s
  · exact .inl ⟨_, hg⟩
  · exact .inl ⟨_, hg⟩
  · exact .inr ⟨hg, (busy_eq_false_iff s).mp hb, hr⟩

/-- Settles O45, by the agent that moves: the block's state code decodes, a command word never stops, GET stops only on an
unwritten result, and no bare primitive is listed. -/
theorem onlyAnEarlyGetStops : Obligations.OnlyAnEarlyGetStops := by
  intro s h hm hc
  obtain ⟨rest, _, hturn⟩ := fetch_eq s
  rw [step_eq_runMove (h.standingStop_eq_none hm hc), hturn]
  obtain hf | ⟨w, hf⟩ | hf | ⟨w, n, _, hin⟩ := fetch_move s
  · obtain ⟨i, hi⟩ := decodeState_of_le h.legalCode
    rw [hf]
    exact .inl (runMove_answers_next_of_decode (w := .ustate s.fsm) hi _)
  · rw [hf]
    exact .inl (runMove_command_answers_next w _)
  · rw [hf]
    obtain hnext | ⟨hg, hidle, hr⟩ := hostGet_answers_next_or (endTurn rest s)
    · exact .inl hnext
    · exact .inr ⟨hg, rfl, hidle, hr⟩
  · exact absurd hin (h.primitiveFree w n)

end Sys2Proof.Machine
end

section
/-! PROOFS. The line and clock primitives (spec/40_line_clock.md R100 to R107): each one's whole next state, the oracles'
answers by whether one is listed (20_memory.md R63, R64), and the clock's modular subtraction (R102). -/

namespace Sys2Proof.Machine

/-! ### Line modes and delays -/

/-- A mode primitive as one update (R108). -/
theorem setMode_eq (m : LineState) (s : State) : setMode m s = { s with mode := m, hist := s.hist ++ [.mode m] } := rfl

/-- A delay as one update (R100). -/
theorem delay_eq (n : Nat) (s : State) : delay n s = { s with hist := s.hist ++ [.delay n] } := rfl

/-- Settles O17: each of the three codes runs `setMode` of its mode. -/
theorem modePrimitivesSetTheMode : Obligations.ModePrimitivesSetTheMode :=
  ⟨rfl, rfl, rfl, fun s =>
    ⟨by rw [exec_driveLow, setMode_eq], by rw [exec_release, setMode_eq], by rw [exec_idleHigh, setMode_eq]⟩⟩

/-- Settles O18: the pulse is its two mode changes with the delay between them. -/
theorem releasePulseDrivesThenListens : Obligations.ReleasePulseDrivesThenListens := fun t s =>
  ⟨rfl, by rw [exec_driveHighRelease, driveHighRelease_eq]⟩

/-- Settles O19: a delay appends its event. -/
theorem delayRecordsItsDuration : Obligations.DelayRecordsItsDuration := fun n s =>
  ⟨rfl, by rw [exec_delay, delay_eq]⟩

/-! ### The oracles' answers -/

/-- A sample with an answer listed, as one update (R106). -/
theorem sampled_of_listed {s : State} {v : Bool} {rest : List Bool} (h : s.lineIn = v :: rest) :
    sampled s = { s with lineIn := rest, draws := s.draws + 1, hist := s.hist ++ [.sample v] } := by
  simp [sampled, emit, takeLineAnswer, lineLevel_of_listed h, h]

/-- A sample with no answer listed, as one update: the list stays empty (R63). -/
theorem sampled_of_free {s : State} (h : s.lineIn = []) :
    sampled s = { s with
      draws := s.draws + 1
      hist := s.hist ++ [.sample (Config.freeLineLevel s.draws s.hist)] } := by
  simp [sampled, emit, takeLineAnswer, lineLevel_of_free h, h]

/-- Settles O20: the sample by whether an answer is listed. -/
theorem sampleRecordsTheLineAnswer : Obligations.SampleRecordsTheLineAnswer :=
  ⟨rfl, fun s _ _ h => by rw [exec_sample, sampled_of_listed h], fun s h => by rw [exec_sample, sampled_of_free h]⟩

/-- A timeout query with an answer listed, as one update (R101). -/
theorem timeoutAsked_of_listed {s : State} (b : Nat) {a : Bool} {rest : List Bool} (h : s.clockIn = a :: rest) :
    timeoutAsked b s = { s with clockIn := rest, draws := s.draws + 1, hist := s.hist ++ [.elapsed a] } := by
  simp [timeoutAsked, emit, takeClockAnswer, clockAnswer_of_listed h, h]

/-- A timeout query with no answer listed, as one update: the list stays empty (R64). -/
theorem timeoutAsked_of_free {s : State} (b : Nat) (h : s.clockIn = []) :
    timeoutAsked b s = { s with
      draws := s.draws + 1
      hist := s.hist ++ [.elapsed (Config.freeTimeout s.draws s.hist b)] } := by
  simp [timeoutAsked, emit, takeClockAnswer, clockAnswer_of_free h, h]

/-- Settles O21: the query by whether an answer is listed. -/
theorem timeoutQueryRecordsTheClockAnswer : Obligations.TimeoutQueryRecordsTheClockAnswer :=
  ⟨fun _ => rfl, fun b s _ _ h => by rw [exec_elapsed, timeoutAsked_of_listed b h],
    fun b s h => by rw [exec_elapsed, timeoutAsked_of_free b h]⟩

/-! ### Clock subtraction (R102) -/

/-- Wrapping both readings to the counter's width leaves the elapsed ticks as they were. -/
theorem elapsedTicks_wrapped (width now start : Nat) :
    elapsedTicks width (now % 2 ^ width) (start % 2 ^ width) = elapsedTicks width now start := by
  simp only [elapsedTicks]
  push_cast
  rw [← Int.sub_emod]

/-- Between unwrapped readings the elapsed ticks are the true ones modulo the counter's range. -/
theorem elapsedTicks_add (width start ticks : Nat) :
    elapsedTicks width (start + ticks) start = ticks % 2 ^ width := by
  have hsub : ((start + ticks : Nat) : Int) - (start : Int) = ticks := by omega
  rw [elapsedTicks, hsub]
  exact_mod_cast Int.toNat_natCast (ticks % 2 ^ width)

/-- Settles O22: the wrap drops out of the difference, and ticks that fit the counter are their own remainder. -/
theorem clockSubtractionSurvivesWrap : Obligations.ClockSubtractionSurvivesWrap := by
  intro width start ticks hfit
  rw [elapsedTicks_wrapped, elapsedTicks_add, Nat.mod_eq_of_lt hfit]

end Sys2Proof.Machine
end

section
/-! PROOFS. The handshake (spec/41_handshake.md): each state's whole next state (R121 to R127), and the block's run of the
two failed handshakes (R130). -/

namespace Sys2Proof.Machine

/-! ### Next states as updates -/

/-- Entering a state as one update (R13). -/
theorem goto_eq (f : FsmWord) (s : State) : goto f s = { s with fsm := f } := rfl

/-- Taking a failure as one update (R220). -/
theorem raiseFailure_eq (c : CauseWord) (s : State) :
    raiseFailure c s = { s with fsm := Fsm.failed, cause := c, causeWritten := true } := rfl

/-! ### The states up to the sampling (R121 to R123, R127) -/

/-- Settles O23: IDLE is a step that changes nothing (log entry 5). -/
theorem idleTakesNoStep : Obligations.IdleTakesNoStep :=
  ⟨rfl, exec_idle⟩

/-- Settles O24: the delay, and then the next state. -/
theorem wakeLowHoldsForTheWakeTime : Obligations.WakeLowHoldsForTheWakeTime :=
  ⟨rfl, fun s => by rw [exec_wakeLow, delay_eq, goto_eq]⟩

/-- Settles O25: the release pulse, and then the next state. -/
theorem releaseHighPulsesAndListens : Obligations.ReleaseHighPulsesAndListens :=
  ⟨rfl, fun s => by rw [exec_releaseHigh, driveHighRelease_eq, goto_eq]⟩

/-- Settles O29: the next state alone. -/
theorem readyGoesToTheBits : Obligations.ReadyGoesToTheBits :=
  ⟨rfl, fun s => by rw [exec_ready, goto_eq]⟩

/-! ### Samples and timeout queries with their answers named -/

/-- A sample as one update, whether its answer is listed or free (R106). -/
theorem sampled_eq {s : State} {v : Bool} (h : lineLevel s = v) :
    sampled s = { s with lineIn := s.lineIn.tail, draws := s.draws + 1, hist := s.hist ++ [.sample v] } := by
  subst h
  rfl

/-- A sample after a delay as one update (R124, R125, R152). -/
theorem sampled_delay_eq {n : Nat} {s : State} {v : Bool} (h : lineLevel (delay n s) = v) :
    sampled (delay n s) = { s with
      lineIn := s.lineIn.tail
      draws := s.draws + 1
      hist := s.hist ++ [.delay n, .sample v] } := by
  rw [sampled_eq h, delay_eq]
  simp

/-- A timeout query after a sample as one update (R126, R151, R153). -/
theorem timeoutAsked_sampled_eq {b : Nat} {s : State} {v a : Bool} (h : lineLevel s = v)
    (ha : clockAnswer b (sampled s) = a) :
    timeoutAsked b (sampled s) = { s with
      lineIn := s.lineIn.tail
      clockIn := s.clockIn.tail
      draws := s.draws + 2
      hist := s.hist ++ [.sample v, .elapsed a] } := by
  rw [timeoutAsked, ha, sampled_eq h]
  simp [emit, takeClockAnswer]

/-! ### The two acknowledgments (R124, R125) -/

/-- Settles O26, by the level sampled after the delay. -/
theorem awaitAck0ChecksForLow : Obligations.AwaitAck0ChecksForLow := by
  refine ⟨rfl, fun s v hv => ⟨?_, ?_⟩⟩ <;> rintro rfl
  · rw [exec_awaitAck0_of_high s hv, sampled_delay_eq hv, raiseFailure_eq]
  · rw [exec_awaitAck0_of_low s hv, sampled_delay_eq hv, goto_eq]

/-- Settles O27, by the level sampled after the delay. -/
theorem awaitAck1ChecksForHigh : Obligations.AwaitAck1ChecksForHigh := by
  refine ⟨rfl, fun s v hv => ⟨?_, ?_⟩⟩ <;> rintro rfl
  · rw [exec_awaitAck1_of_low s hv, sampled_delay_eq hv, raiseFailure_eq]
  · rw [exec_awaitAck1_of_high s hv, sampled_delay_eq hv, goto_eq]

/-! ### The busy-wait (R126) -/

/-- An operation that is one poll polls once: it leaves on the exit level; on the other one it stays when it is unbounded,
and else the clock's answer decides. -/
theorem pollsOnce_of_exec {i : Instr} {exitLevel : Bool} {bound : Option Nat} {exit again : FsmWord} {s : State}
    (h : exec i s = .next (poll exitLevel bound exit again s)) : PollsOnce i exitLevel bound exit again s := by
  refine ⟨fun hv => ?_, fun hv hb => ?_, fun b a hv hb ha => ?_⟩
  · rw [h, poll_of_exit hv, sampled_eq hv, goto_eq]
  · have hstay : lineLevel s ≠ exitLevel := by simp [hv]
    rw [h, hb, poll_of_stay hstay, sampled_eq hv, goto_eq]
  · have hstay : lineLevel s ≠ exitLevel := by simp [hv]
    rw [h, hb, poll_of_stay_bounded hstay, timeoutAsked_sampled_eq hv ha, ha]
    refine ⟨?_, ?_⟩ <;> rintro rfl
    · rw [if_pos rfl, raiseFailure_eq]
    · rw [if_neg Bool.false_ne_true, goto_eq]

/-- Settles O28: AWAIT_ACK_END is one poll for low. -/
theorem awaitAckEndPollsForLow : Obligations.AwaitAckEndPollsForLow :=
  ⟨rfl, fun s => pollsOnce_of_exec (exec_awaitAckEnd s)⟩

/-! ### Runs of the block alone

With no host turn listed, the block runs the rule of its current state at each step. -/

/-- No host turn is listed, and nothing but a reserved code in `fsm` can stop the block. -/
structure Unattended (s : State) : Prop where
  noTurns : s.agenda = []
  noFault : s.faultMark = none
  legal : s.cfg.legal = true
  causeLegal : s.causeWritten = true → s.cause.toNat ≤ 4

/-- An unattended block runs the rule of its state. -/
theorem Unattended.step_eq_exec {s : State} (h : Unattended s) {i : Instr} (hd : decodeState s.fsm = some i) :
    step s = exec i s := by
  have hstop : standingStop s = none :=
    (standingStop_eq_none_iff s).mpr ⟨h.noFault, h.legal, toNat_le_of_decodeState hd, h.causeLegal⟩
  have hfetch : fetch s = (.word (.ustate s.fsm), s) := by rw [fetch, h.noTurns]
  rw [step_eq_runMove hstop, hfetch, runMove_word_of_decode (w := .ustate s.fsm) hd]

/-- A poll writes no other cause than TRANSMISSION_HANG (R126). -/
theorem causeLegal_poll {s : State} (h : s.causeWritten = true → s.cause.toNat ≤ 4) (exitLevel : Bool)
    (bound : Option Nat) (exit again : FsmWord) :
    (poll exitLevel bound exit again s).causeWritten = true → (poll exitLevel bound exit again s).cause.toNat ≤ 4 := by
  obtain ⟨_, hp⟩ | ⟨_, _, hp⟩ | ⟨_, _, _, _, hp⟩ | ⟨_, _, _, _, hp⟩ := poll_cases exitLevel bound exit again s <;> rw [hp]
  · exact h
  · exact h
  · simp
  · exact h

/-- No operation writes a reserved cause (R75). -/
theorem Executes.causeLegal {i : Instr} {s t : State} (he : Executes i s t)
    (h : s.causeWritten = true → s.cause.toNat ≤ 4) : t.causeWritten = true → t.cause.toNat ≤ 4 := by
  cases he
  case awaitAckEnd | bitWaitRise | bitWaitFall => exact causeLegal_poll h _ _ _ _
  case read | noResponse | ackMissing | mismatch => simp
  all_goals exact h

/-- The host stays away and nothing comes to stand, whatever the block runs. -/
theorem Unattended.of_exec {s t : State} (h : Unattended s) {i : Instr} (he : exec i s = .next t) : Unattended t := by
  have hx := executes_of_exec he
  obtain ⟨hcfg, hfault, hagenda, _⟩ := hx.bookkeeping_eq
  exact ⟨hagenda.trans h.noTurns, hfault.trans h.noFault, hcfg ▸ h.legal, hx.causeLegal h.causeLegal⟩

/-- A run's last step is one step from where the steps before it end. -/
theorem runSteps_succ_of_next {k : Nat} {s t : State} (h : runSteps k s = .next t) : runSteps (k + 1) s = step t := by
  induction k generalizing s with
  | zero =>
    cases h
    rw [runSteps]
    split <;> simp [runSteps, *]
  | succ k ih =>
    rw [runSteps] at h ⊢
    split at h
    case h_1 => exact ih h
    all_goals cases h

/-- Left alone for `k` steps, `s` has become `t`. -/
structure BlockRun (k : Nat) (s t : State) : Prop where
  unattended : Unattended t
  runs : runSteps k s = .next t

namespace BlockRun

theorem refl {s : State} (h : Unattended s) : BlockRun 0 s s := ⟨h, rfl⟩

section extend

variable {k : Nat} {s t : State} (h : BlockRun k s t)
include h

/-- One step more: the rule of the state reached. -/
theorem move {u : State} {i : Instr} (hd : decodeState t.fsm = some i) (he : exec i t = .next u) :
    BlockRun (k + 1) s u :=
  ⟨h.unattended.of_exec he, by rw [runSteps_succ_of_next h.runs, h.unattended.step_eq_exec hd, he]⟩

/-- The wake pulse and the release: two steps from WAKE_LOW the block listens (R122, R123). -/
theorem wake (hf : t.fsm = Fsm.wakeLow) :
    BlockRun (k + 2) s { t with
      fsm := Fsm.awaitAck0
      mode := .listening
      hist := t.hist ++ [.delay t.cfg.tWake, .mode .drivingHigh, .delay t.cfg.tRel, .mode .listening] } := by
  have run := (h.move (by rw [hf]; rfl) (wakeLowHoldsForTheWakeTime.2 t)).move rfl (releaseHighPulsesAndListens.2 _)
  simpa using run

/-- A high first answer fails the read (R124). -/
theorem noResponse {rest : List Bool} (hf : t.fsm = Fsm.awaitAck0) (hl : t.lineIn = true :: rest) :
    BlockRun (k + 1) s { t with
      fsm := Fsm.failed
      cause := 0b001#3
      causeWritten := true
      lineIn := rest
      draws := t.draws + 1
      hist := t.hist ++ [.delay t.cfg.tAck0, .sample true] } := by
  have run := h.move (by rw [hf]; rfl) ((awaitAck0ChecksForLow.2 t _ (lineLevel_of_listed hl)).1 rfl)
  simpa [hl] using run

/-- A low first answer goes on to the second acknowledgment (R124). -/
theorem responds {rest : List Bool} (hf : t.fsm = Fsm.awaitAck0) (hl : t.lineIn = false :: rest) :
    BlockRun (k + 1) s { t with
      fsm := Fsm.awaitAck1
      lineIn := rest
      draws := t.draws + 1
      hist := t.hist ++ [.delay t.cfg.tAck0, .sample false] } := by
  have run := h.move (by rw [hf]; rfl) ((awaitAck0ChecksForLow.2 t _ (lineLevel_of_listed hl)).2 rfl)
  simpa [hl] using run

/-- A low second answer fails the read (R125). -/
theorem ackMissing {rest : List Bool} (hf : t.fsm = Fsm.awaitAck1) (hl : t.lineIn = false :: rest) :
    BlockRun (k + 1) s { t with
      fsm := Fsm.failed
      cause := 0b010#3
      causeWritten := true
      lineIn := rest
      draws := t.draws + 1
      hist := t.hist ++ [.delay t.cfg.tAck1, .sample false] } := by
  have run := h.move (by rw [hf]; rfl) ((awaitAck1ChecksForHigh.2 t _ (lineLevel_of_listed hl)).1 rfl)
  simpa [hl] using run

/-- A failed read ends in two steps: the sentinel, and the return (R177, R178, R228). -/
theorem failedRead (hf : t.fsm = Fsm.failed) :
    BlockRun (k + 2) s { t with
      fsm := Fsm.idle
      mode := .idle
      rh := 0#16
      rhWritten := true
      temp := 0#16
      tempWritten := true
      hist := t.hist ++ [.mode .idle, .done 0#16 0#16 t.cause] } := by
  have run := (h.move (by rw [hf]; rfl) (exec_failed t)).move rfl (exec_finalize _)
  rwa [finishRead_eq] at run

end extend

end BlockRun

/-! ### The two failed handshakes (R130) -/

theorem AtWake.unattended {s : State} (h : AtWake s) : Unattended s := by
  obtain ⟨_, hagenda, hfault, hlegal, _, _, hcause, _⟩ := h
  exact ⟨hagenda, hfault, hlegal, fun _ => by simp [hcause]⟩

/-- Settles O54: the wake, one or two acknowledgments by their first answers, and the end of a failed read. -/
theorem failedHandshakesEndIdle : Obligations.FailedHandshakesEndIdle := by
  intro s rest h
  have ⟨hfsm, _, _, _, _, _, _, htag⟩ := h
  have woken := (BlockRun.refl h.unattended).wake hfsm
  refine ⟨fun hline => ?_, fun hline => ?_⟩
  · have run := (woken.noResponse rfl hline).failedRead rfl
    simpa [htag] using run.runs
  · have run := ((woken.responds rfl hline).ackMissing rfl rfl).failedRead rfl
    simpa [htag] using run.runs

end Sys2Proof.Machine
end

section
/-! PROOFS. The bit discriminator (spec/42_bit_decoder.md): each state's whole next state (R151 to R153), the unbounded
waits (R155), and the block's run of a successful read with the delays it requests (R156). -/

namespace Sys2Proof.Machine

/-! ### The three states -/

/-- The state after a complete bit, by the count as a word (R152, R153). -/
theorem afterBit_eq_ite (c : CountWord) : afterBit c = if c = 40#6 then Fsm.decode else Fsm.bitWaitRise := by
  simp [afterBit_eq, BitVec.toNat_eq]

/-- Below 40 the state after a complete bit is the wait for the next. -/
theorem afterBit_of_lt {c : CountWord} (h : c.toNat < 40) : afterBit c = Fsm.bitWaitRise := by
  rw [afterBit_eq, if_neg h.ne]

/-- Settles O30: BIT_WAIT_RISE is one poll for high. -/
theorem bitWaitRisePollsForHigh : Obligations.BitWaitRisePollsForHigh :=
  ⟨rfl, fun s => pollsOnce_of_exec (exec_bitWaitRise s)⟩

/-- BIT_SAMPLE as one update (R152). -/
theorem exec_bitSample_eq {s : State} {v : Bool} (hv : lineLevel (delay s.cfg.tBit s) = v) :
    exec .bitSample s = .next { s with
      fsm := if v = true then Fsm.bitWaitFall else afterBit (s.cnt + 1#6)
      sr := shift40 s.sr v
      cnt := s.cnt + 1#6
      lineIn := s.lineIn.tail
      draws := s.draws + 1
      hist := s.hist ++ [.delay s.cfg.tBit, .sample v] } := by
  cases v
  · rw [exec_bitSample_of_zero s hv, sampled_delay_eq hv]
    rfl
  · rw [exec_bitSample_of_one s hv, sampled_delay_eq hv]
    rfl

/-- Settles O31: the level sampled after the delay is shifted in, and the new count decides after a 0. -/
theorem bitSampleShiftsTheBitIn : Obligations.BitSampleShiftsTheBitIn :=
  ⟨rfl, fun s _ hv => by rw [exec_bitSample_eq (s := s) hv, afterBit_eq_ite]⟩

/-- Settles O32: BIT_WAIT_FALL is one poll for low, and the count decides its exit. -/
theorem bitWaitFallPollsForLow : Obligations.BitWaitFallPollsForLow :=
  ⟨rfl, fun s => pollsOnce_of_exec (by rw [exec_bitWaitFall, afterBit_eq_ite])⟩

/-! ### The waits as one kind of state (R126, R151, R153) -/

/-- The state a wait leaves for on its exit level. -/
def waitExit (f : FsmWord) (c : CountWord) : FsmWord :=
  if f = Fsm.awaitAckEnd then Fsm.ready else if f = Fsm.bitWaitRise then Fsm.bitSample else afterBit c

/-- The rule of a wait is one poll under the wait's own level, bound and exit. -/
theorem wait_pollsOnce {s : State} (hw : isWait s.fsm = true) :
    ∃ i, decodeState s.fsm = some i ∧
      PollsOnce i (!stayLevel s.fsm) (waitBound s.cfg s.fsm) (waitExit s.fsm s.cnt) s.fsm s := by
  have hf : s.fsm = Fsm.awaitAckEnd ∨ s.fsm = Fsm.bitWaitRise ∨ s.fsm = Fsm.bitWaitFall := by
    simpa [isWait, or_assoc] using hw
  obtain hf | hf | hf := hf <;> rw [hf]
  · exact ⟨.awaitAckEnd, rfl, pollsOnce_of_exec (exec_awaitAckEnd s)⟩
  · exact ⟨.bitWaitRise, rfl, pollsOnce_of_exec (exec_bitWaitRise s)⟩
  · exact ⟨.bitWaitFall, rfl, pollsOnce_of_exec (exec_bitWaitFall s)⟩

namespace BlockRun

section extend

variable {k : Nat} {s t : State} (h : BlockRun k s t)
include h

/-- An unbounded wait polls on while the line stays (R155). -/
theorem stays {n : Nat} {rest : List Bool} (hw : isWait t.fsm = true) (hb : waitBound t.cfg t.fsm = none)
    (hl : t.lineIn = List.replicate n (stayLevel t.fsm) ++ rest) :
    BlockRun (k + n) s { t with
      lineIn := rest
      draws := t.draws + n
      hist := t.hist ++ List.replicate n (.sample (stayLevel t.fsm)) } := by
  induction n generalizing k t with
  | zero => simpa [← (show t.lineIn = rest from hl)] using h
  | succ n ih =>
    obtain ⟨i, hd, _, hstay, _⟩ := wait_pollsOnce hw
    rw [List.replicate_succ, List.cons_append] at hl
    have polled := h.move hd (hstay (by simp [lineLevel_of_listed hl]) hb)
    have run := ih polled hw hb (by simp [hl])
    simpa [List.replicate_succ, Nat.add_assoc, Nat.add_comm 1 n] using run

/-- An unbounded wait ends with the first exit level, after any number of polls (R155). -/
theorem waits {n : Nat} {rest : List Bool} (hw : isWait t.fsm = true) (hb : waitBound t.cfg t.fsm = none)
    (hl : t.lineIn = List.replicate n (stayLevel t.fsm) ++ (!stayLevel t.fsm) :: rest) :
    BlockRun (k + n + 1) s { t with
      fsm := waitExit t.fsm t.cnt
      lineIn := rest
      draws := t.draws + n + 1
      hist := t.hist ++ (List.replicate n (.sample (stayLevel t.fsm)) ++ [.sample (!stayLevel t.fsm)]) } := by
  have stayed := h.stays hw hb hl
  obtain ⟨i, hd, hexit, _⟩ := wait_pollsOnce (s := { t with
    lineIn := (!stayLevel t.fsm) :: rest
    draws := t.draws + n
    hist := t.hist ++ List.replicate n (.sample (stayLevel t.fsm)) }) hw
  simpa using stayed.move hd (hexit rfl)

/-- A high second answer goes on to the end of the acknowledgment (R125). -/
theorem acknowledged {rest : List Bool} (hf : t.fsm = Fsm.awaitAck1) (hl : t.lineIn = true :: rest) :
    BlockRun (k + 1) s { t with
      fsm := Fsm.awaitAckEnd
      lineIn := rest
      draws := t.draws + 1
      hist := t.hist ++ [.delay t.cfg.tAck1, .sample true] } := by
  have run := h.move (by rw [hf]; rfl) ((awaitAck1ChecksForHigh.2 t _ (lineLevel_of_listed hl)).2 rfl)
  simpa [hl] using run

/-- From the start of WAKE_LOW, an answered handshake brings the block to the first bit (R130). -/
theorem handshake {n : Nat} {rest : List Bool} (hf : t.fsm = Fsm.wakeLow) (hb : t.cfg.boundAckEnd = none)
    (hl : t.lineIn = readSamples n [] ++ rest) :
    BlockRun (k + n + 6) s { t with
      fsm := Fsm.bitWaitRise
      mode := .listening
      lineIn := rest
      draws := t.draws + (readSamples n []).length
      hist := t.hist ++ readEvents t.cfg n [] } := by
  have hl' : t.lineIn = false :: true :: (List.replicate n true ++ false :: rest) := by simp [hl, readSamples]
  have acked := ((h.wake hf).responds rfl hl').acknowledged rfl rfl
  have run := (acked.waits (n := n) rfl hb rfl).move rfl (readyGoesToTheBits.2 _)
  simpa [readSamples, readEvents, stayLevel, Nat.add_assoc, Nat.add_comm, Nat.add_left_comm] using run

/-- The rising edge, and the level after the bit time (R151, R152). -/
theorem samplesBit {n : Nat} {v : Bool} {rest : List Bool} (hf : t.fsm = Fsm.bitWaitRise)
    (hb : t.cfg.boundRise = none) (hl : t.lineIn = List.replicate n false ++ true :: v :: rest) :
    BlockRun (k + n + 2) s { t with
      fsm := if v = true then Fsm.bitWaitFall else afterBit (t.cnt + 1#6)
      sr := shift40 t.sr v
      cnt := t.cnt + 1#6
      lineIn := rest
      draws := t.draws + n + 2
      hist := t.hist ++ (List.replicate n (.sample false) ++ [.sample true, .delay t.cfg.tBit, .sample v]) } := by
  have risen := h.waits (n := n) (rest := v :: rest) (by rw [hf]; rfl) (by rw [hf]; exact hb) (by rw [hf]; exact hl)
  rw [hf] at risen
  simpa [stayLevel] using risen.move rfl (exec_bitSample_eq (v := v) rfl)

/-- One answered bit is shifted in and counted (R150, R156). -/
theorem bit {b : BitAnswers} {rest : List Bool} (hf : t.fsm = Fsm.bitWaitRise) (hr : t.cfg.boundRise = none)
    (hb : t.cfg.boundFall = none) (hl : t.lineIn = b.samples ++ rest) :
    BlockRun (k + b.steps) s { t with
      fsm := afterBit (t.cnt + 1#6)
      sr := shift40 t.sr b.bit
      cnt := t.cnt + 1#6
      lineIn := rest
      draws := t.draws + b.samples.length
      hist := t.hist ++ b.events t.cfg.tBit } := by
  obtain ⟨rise, v, fall⟩ := b
  cases v
  case false =>
    have run := h.samplesBit (n := rise) hf hr (by simpa [BitAnswers.samples] using hl)
    simpa [BitAnswers.samples, BitAnswers.events, BitAnswers.steps, Nat.add_assoc] using run
  case true =>
    have high := h.samplesBit (n := rise) hf hr (by simpa [BitAnswers.samples] using hl)
    have run := high.waits (n := fall) rfl hb rfl
    simpa [BitAnswers.samples, BitAnswers.events, BitAnswers.steps, stayLevel, waitExit, Nat.add_assoc,
      Nat.add_left_comm] using run

/-- The bits of a frame up to its 40th are shifted in and counted in turn (R156, R172). -/
theorem readsBits {bits : List BitAnswers} {rest : List Bool} (hf : t.fsm = afterBit t.cnt)
    (hlen : t.cnt.toNat + bits.length ≤ 40) (hr : t.cfg.boundRise = none) (hb : t.cfg.boundFall = none)
    (hl : t.lineIn = bits.flatMap BitAnswers.samples ++ rest) :
    BlockRun (k + (bits.map BitAnswers.steps).sum) s { t with
      fsm := afterBit (t.cnt + BitVec.ofNat 6 bits.length)
      sr := (bits.map BitAnswers.bit).foldl shift40 t.sr
      cnt := t.cnt + BitVec.ofNat 6 bits.length
      lineIn := rest
      draws := t.draws + (bits.flatMap BitAnswers.samples).length
      hist := t.hist ++ bits.flatMap (BitAnswers.events t.cfg.tBit) } := by
  induction bits generalizing k t with
  | nil => simpa [← (show t.lineIn = rest from hl), ← hf] using h
  | cons b bits ih =>
    simp only [List.length_cons, List.flatMap_cons, List.append_assoc] at hlen hl
    have hcnt : t.cnt.toNat < 40 := by omega
    have first := h.bit (hf.trans (afterBit_of_lt hcnt)) hr hb hl
    have run := ih first rfl (by simp only [cnt_succ_toNat hcnt]; omega) hr hb rfl
    have hadd : t.cnt + BitVec.ofNat 6 (bits.length + 1) = t.cnt + 1#6 + BitVec.ofNat 6 bits.length := by
      rw [Nat.add_comm, BitVec.ofNat_add, BitVec.add_assoc]
    simpa [hadd, Nat.add_assoc] using run

/-- A frame that is accepted is published, and the read is over (R176, R178). -/
theorem publishes (hf : t.fsm = Fsm.decode) (hv : t.cfg.verifyChecksum = false ∨ checksumOk t.sr = true) :
    BlockRun (k + 2) s { t with
      fsm := Fsm.idle
      mode := .idle
      rh := humidityField t.sr
      rhWritten := true
      temp := temperatureWord (temperatureField t.sr)
      tempWritten := true
      hist := t.hist ++ [.mode .idle,
        .done (humidityField t.sr) (temperatureWord (temperatureField t.sr)) t.cause] } := by
  have run := (h.move (by rw [hf]; rfl) (exec_decode_of_accepted t hv)).move rfl (exec_finalize _)
  rwa [finishRead_eq] at run

end extend

end BlockRun

/-! ### The run of a successful read (R130, R156) -/

/-- A read's answers are those of its handshake and then those of its bits. -/
theorem readSamples_handshake_append (k : Nat) (bits : List BitAnswers) :
    readSamples k [] ++ bits.flatMap BitAnswers.samples = readSamples k bits := by
  simp [readSamples]

/-- A read's events are those of its handshake and then those of its bits. -/
theorem readEvents_handshake_append (c : Config) (k : Nat) (bits : List BitAnswers) :
    readEvents c k [] ++ bits.flatMap (BitAnswers.events c.tBit) = readEvents c k bits := by
  simp [readEvents]

/-- A read's steps are those of its handshake, of its bits, and of its end. -/
theorem readSteps_eq (k : Nat) (bits : List BitAnswers) :
    readSteps k bits = k + 6 + (bits.map BitAnswers.steps).sum + 2 := by
  rw [readSteps]
  omega

/-- In unbounded waits a sensor that acknowledges and answers 40 bits is read to the end, with any number of polls
anywhere: the frame it sent is in `sr`, and its decoded results are published (R130, R156, R172, R176, R178). -/
theorem AtWake.readRun {s : State} {k : Nat} {bits : List BitAnswers} {rest : List Bool} {frame : FrameWord}
    (h : AtWake s) (hlen : bits.length = 40) (hframe : frame = shiftedFrame (bits.map BitAnswers.bit))
    (he : s.cfg.boundAckEnd = none) (hr : s.cfg.boundRise = none) (hb : s.cfg.boundFall = none)
    (hv : s.cfg.verifyChecksum = false ∨ checksumOk frame = true) (hl : s.lineIn = readSamples k bits ++ rest) :
    BlockRun (readSteps k bits) s { s with
      fsm := Fsm.idle
      mode := .idle
      sr := frame
      cnt := 40#6
      rh := humidityField frame
      rhWritten := true
      temp := temperatureWord (temperatureField frame)
      tempWritten := true
      lineIn := rest
      draws := s.draws + (readSamples k bits).length
      hist := s.hist ++ readEvents s.cfg k bits ++
        [.mode .idle, .done (humidityField frame) (temperatureWord (temperatureField frame)) 0b000#3] } := by
  subst hframe
  have ⟨hfsm, _, _, _, hsr, hcnt, hcause, _⟩ := h
  have shaken := (BlockRun.refl h.unattended).handshake (n := k) hfsm he
    (rest := bits.flatMap BitAnswers.samples ++ rest) (by rw [hl, ← readSamples_handshake_append, List.append_assoc])
  have received := shaken.readsBits (bits := bits) (by rw [hcnt]; rfl) (by simp [hcnt, hlen]) hr hb rfl
  have run := received.publishes (by rw [hcnt, hlen]; rfl) (by simpa [hsr, shiftedFrame] using hv)
  rw [readSteps_eq, ← readSamples_handshake_append, ← readEvents_handshake_append]
  simpa [hsr, hcnt, hcause, hlen, shiftedFrame, Nat.add_assoc] using run

/-! ### The delays of a successful read (R156, R260) -/

/-- Delays requested in two parts add up. -/
theorem requestedDelay_append (es fs : List Event) :
    requestedDelay (es ++ fs) = requestedDelay es + requestedDelay fs := by
  induction es with
  | nil => simp [requestedDelay]
  | cons e es ih => cases e <;> simp [requestedDelay, ih, Nat.add_assoc]

/-- Polling requests no delay. -/
theorem requestedDelay_polls (n : Nat) (v : Bool) : requestedDelay (List.replicate n (.sample v)) = 0 := by
  induction n with
  | zero => rfl
  | succ n ih => simpa [List.replicate_succ, requestedDelay] using ih

/-- One bit requests one bit time. -/
theorem requestedDelay_bit (tBit : Nat) (b : BitAnswers) : requestedDelay (b.events tBit) = tBit := by
  obtain ⟨rise, v, fall⟩ := b
  cases v <;> simp [BitAnswers.events, requestedDelay_append, requestedDelay_polls, requestedDelay]

/-- Bits request one bit time each. -/
theorem requestedDelay_bits (tBit : Nat) (bits : List BitAnswers) :
    requestedDelay (bits.flatMap (BitAnswers.events tBit)) = bits.length * tBit := by
  induction bits with
  | nil => simp [requestedDelay]
  | cons b bits ih => simp [requestedDelay_append, requestedDelay_bit, ih, Nat.succ_mul, Nat.add_comm]

/-- A read's requested delays, up to DECODE, are those of its handshake and one bit time a bit. -/
theorem requestedDelay_readEvents (c : Config) (k : Nat) (bits : List BitAnswers) :
    requestedDelay (readEvents c k bits) = c.tWake + c.tRel + c.tAck0 + c.tAck1 + bits.length * c.tBit := by
  simp only [readEvents, requestedDelay_append, requestedDelay_polls, requestedDelay_bits, requestedDelay]
  omega

/-- Settles O57: the run of a successful read appends the read's events and its end, which requests no delay. -/
theorem successfulReadRequestsItsDelays : Obligations.SuccessfulReadRequestsItsDelays := by
  intro s k bits rest h hlen he hr hb hv hl
  have ⟨_, _, _, _, _, _, hcause, _⟩ := h
  refine ⟨_, (h.readRun hlen rfl he hr hb hv hl).runs, rfl, hcause, ?_⟩
  simp [newEvents, requestedDelay_append, requestedDelay_readEvents, hlen, requestedDelay]

end Sys2Proof.Machine
end

section
/-! PROOFS. The frame assembler (spec/43_frame_assembler.md): each frame-end state's whole next state (R176 to R178), the
datapath (R171 to R175, R180, R181), what a read publishes (R179), and the read of a sent frame (R170, R180). -/

namespace Sys2Proof.Machine

/-! ### The frame-end states (R176 to R178) -/

/-- Writing both results as one update (R26). -/
theorem writeResults_eq (x y : ResultWord) (s : State) :
    writeResults x y s = { s with rh := x, rhWritten := true, temp := y, tempWritten := true } := rfl

/-- Settles O34, by whether the checksum is checked and wrong. -/
theorem decodeWritesTheReading : Obligations.DecodeWritesTheReading :=
  ⟨rfl, fun s => ⟨fun hv hc => by rw [exec_decode_of_mismatch s hv hc, raiseFailure_eq],
    fun ha => by rw [exec_decode_of_accepted s ha, writeResults_eq, goto_eq, temperatureWord]⟩⟩

/-- Settles O35: the sentinel is written, and then the next state. -/
theorem failedReportsTheSentinel : Obligations.FailedReportsTheSentinel :=
  ⟨rfl, fun s => by rw [exec_failed, writeResults_eq, goto_eq]⟩

/-- Settles O36: FINALIZE is the return from a read. -/
theorem finalizeRestsTheLineAndPublishes : Obligations.FinalizeRestsTheLineAndPublishes :=
  ⟨rfl, fun s => by rw [exec_finalize, finishRead_eq]⟩

/-! ### The shift (R171) -/

/-- Bit 0 of a shifted frame is the new bit, and every other one is the old bit below it. -/
theorem getLsbD_shift40 (s : FrameWord) (v : Bool) (i : Nat) :
    (shift40 s v).getLsbD i = (decide (i < 40) && if i = 0 then v else s.getLsbD (i - 1)) := by
  cases i <;> simp [shift40]

/-- The shift as a concatenation. -/
theorem shift40_eq_append (s : FrameWord) (v : Bool) : shift40 s v = s.extractLsb' 0 39 ++ BitVec.ofBool v := by
  refine BitVec.eq_of_getLsbD_eq fun i hi => ?_
  rw [getLsbD_shift40, BitVec.getLsbD_append]
  cases i with
  | zero => simp
  | succ i =>
    have hin : i < 39 := by omega
    simp [hi, hin]

/-- Settles O37: the shift as arithmetic, as a concatenation, and below 2^39. -/
theorem shiftEntersAtTheLowestBit : Obligations.ShiftEntersAtTheLowestBit := fun s v =>
  ⟨shift40_toNat s v, shift40_eq_append s v, shift40_toNat_of_lt v⟩

/-! ### Accumulators (R172)

`sr` is an accumulator of 40 bits. The bit at place `i` of any accumulator is the `i`-th from the end of its list, so a
slice of one is the accumulator of a part of the list. -/

theorem shiftedFrame_eq_accumulate (bits : List Bool) : shiftedFrame bits = accumulate 40 bits := rfl

theorem accumulate_append (n : Nat) (bits : List Bool) (b : Bool) :
    accumulate n (bits ++ [b]) = (accumulate n bits <<< 1) ||| BitVec.setWidth n (BitVec.ofBool b) := by
  simp [accumulate]

theorem getLsbD_accumulate (n : Nat) (bits : List Bool) (i : Nat) :
    (accumulate n bits).getLsbD i = (decide (i < n) && bits.reverse.getD i false) := by
  induction bits using List.reverseRecOn generalizing i with
  | nil => simp [accumulate]
  | append_singleton bits b ih =>
    rw [accumulate_append]
    cases i with
    | zero => simp
    | succ i =>
      by_cases hi : i + 1 < n
      · have hin : i < n := by omega
        simpa [hi, hin] using ih i
      · simp [hi]

/-- A slice of an accumulator leaves out the last bits, as many as lie below it. -/
theorem extractLsb'_accumulate {n start len : Nat} {bits : List Bool} (h : start + len ≤ n)
    (hb : start ≤ bits.length) :
    (accumulate n bits).extractLsb' start len = accumulate len (bits.take (bits.length - start)) := by
  refine BitVec.eq_of_getLsbD_eq fun i hi => ?_
  have hin : start + i < n := by omega
  rw [BitVec.getLsbD_extractLsb', getLsbD_accumulate, getLsbD_accumulate, List.reverse_take, Nat.sub_sub_self hb]
  simp [hi, hin]

/-- The bits that an accumulator has no place for are lost. -/
theorem accumulate_drop {len k : Nat} {bits : List Bool} (h : k + len ≤ bits.length) :
    accumulate len (bits.drop k) = accumulate len bits := by
  refine BitVec.eq_of_getLsbD_eq fun i hi => ?_
  have hin : i < bits.length - k := by omega
  rw [getLsbD_accumulate, getLsbD_accumulate, List.reverse_drop]
  simp only [List.getD_eq_getElem?_getD, List.getElem?_take_of_lt hin]

/-- A slice of a frame of 40 bits is the accumulator of the bits that stand there. -/
theorem extractLsb'_shiftedFrame {start len : Nat} {bits : List Bool} (hlen : bits.length = 40)
    (h : start + len ≤ 40) :
    (shiftedFrame bits).extractLsb' start len = accumulate len ((bits.drop (40 - (start + len))).take len) := by
  have hend : 40 - (start + len) + len = bits.length - start := by omega
  rw [shiftedFrame_eq_accumulate, extractLsb'_accumulate h (by omega), List.take_drop, hend,
    accumulate_drop (by simp; omega)]

/-- Bits shifted in without loss, as a positional sum. -/
theorem foldl_shift40_toNat {bits : List Bool} {s : FrameWord} {n : Nat} (hs : s.toNat < 2 ^ n)
    (h : n + bits.length ≤ 40) :
    (bits.foldl shift40 s).toNat = s.toNat * 2 ^ bits.length +
      ((List.range bits.length).map fun i => (bits.getD i false).toNat * 2 ^ (bits.length - (i + 1))).sum := by
  induction bits generalizing s n with
  | nil => simp
  | cons b bits ih =>
    rw [List.length_cons] at h
    have hlt : s.toNat < 2 ^ 39 := hs.trans_le (Nat.pow_le_pow_right (by decide) (by omega))
    rw [List.foldl_cons, ih (shift40_toNat_lt b hs) (by omega), shift40_toNat_of_lt b hlt]
    simp [List.range_succ_eq_map, Function.comp_def]
    ring

/-- Settles O38: the positional sum of 40 bits shifted into 0, and the three slices as accumulators. -/
theorem fortyShiftsAssembleTheFrame : Obligations.FortyShiftsAssembleTheFrame := by
  intro bits hlen
  have hsum := foldl_shift40_toNat (bits := bits) (s := 0#40) (n := 0) (by simp) (by omega)
  refine ⟨?_, extractLsb'_shiftedFrame hlen (by decide), extractLsb'_shiftedFrame hlen (by decide), ?_⟩
  · rw [shiftedFrame, hsum]
    simp [hlen]
  · have hlast : (bits.drop 32).take 8 = bits.drop 32 := List.take_of_length_le (by simp [hlen])
    exact (extractLsb'_shiftedFrame hlen (by decide)).trans (congrArg _ hlast)

/-! ### The sign-magnitude decoder and the Reading (R173, R174, R181) -/

/-- A result word's sign bit, by its value. -/
theorem getLsbD_fifteen (p : ResultWord) : p.getLsbD 15 = decide (32768 ≤ p.toNat) :=
  (BitVec.msb_eq_getLsbD_last p).symm.trans (BitVec.msb_eq_decide p)

/-- The two's complement value by the sign bit (R12). -/
theorem s16_eq (p : ResultWord) : s16 p = if 32768 ≤ p.toNat then (p.toNat : Int) - 65536 else p.toNat := by
  simp only [s16, getLsbD_fifteen, decide_eq_true_eq]

theorem signMagnitude_of_negative {t : ResultWord} (h : t.getLsbD 15 = true) :
    signMagnitude t = -((t &&& 0x7FFF#16).toNat : Int) := by
  have hand : (t &&& 0x7FFF#16).toNat = t.toNat % 2 ^ 15 := Nat.and_two_pow_sub_one_eq_mod t.toNat 15
  have hneg : 32768 ≤ t.toNat := by simpa only [getLsbD_fifteen, decide_eq_true_eq] using h
  rw [signMagnitude_eq, if_pos hneg, hand]
  omega

theorem signMagnitude_of_nonneg {t : ResultWord} (h : t.getLsbD 15 = false) : signMagnitude t = (t.toNat : Int) := by
  have hpos : ¬ 32768 ≤ t.toNat := by simpa only [getLsbD_fifteen, decide_eq_false_iff_not] using h
  rw [signMagnitude_eq, if_neg hpos]

/-- The word DECODE writes to `temp` reads back as the decoded temperature (R173). -/
theorem s16_temperatureWord (t : ResultWord) : s16 (temperatureWord t) = signMagnitude t := by
  obtain ⟨hlo, hhi⟩ := signMagnitude_range t
  exact s16_u16 (by omega) hhi

/-- The pattern of -32768 is never written: it would read back out of the range (R173). -/
theorem temperatureWord_ne_min (t : ResultWord) : temperatureWord t ≠ 0x8000#16 := by
  intro hmin
  have hval : signMagnitude t = -32768 := by rw [← s16_temperatureWord, hmin]; rfl
  have := signMagnitude_range t
  omega

/-- Settles O39, by the sign bit; the four examples compute. -/
theorem signMagnitudeDecodes : Obligations.SignMagnitudeDecodes := by
  refine ⟨fun t => ?_, by decide, by decide, by decide, by decide⟩
  obtain ⟨hlo, hhi⟩ := signMagnitude_range t
  exact ⟨signMagnitude_of_negative, signMagnitude_of_nonneg, hlo, hhi, s16_temperatureWord t, temperatureWord_ne_min t⟩

/-- Settles O40: an accepted DECODE writes the humidity bits and the decoded temperature, which read back. -/
theorem acceptedReadingValues : Obligations.AcceptedReadingValues := by
  intro s ha
  refine ⟨_, exec_decode_of_accepted s ha, rfl, fun hlo => ?_, fun hhi => ?_, fun hsign => ?_, fun hsign => ?_⟩
  · exact (s16_eq (humidityField s.sr)).trans (if_neg (by omega))
  · exact (s16_eq (humidityField s.sr)).trans (if_pos hhi)
  · have htemp := (s16_temperatureWord (temperatureField s.sr)).trans (signMagnitude_of_nonneg hsign)
    exact ⟨htemp, htemp ▸ Int.natCast_nonneg _⟩
  · exact (s16_temperatureWord _).trans (signMagnitude_of_negative hsign)

/-! ### The checksum (R175) -/

/-- The data bytes as quotients and remainders of the frame. -/
theorem checksum_eq (sr : FrameWord) :
    checksum sr = (sr.toNat / 2 ^ 32 % 256 + sr.toNat / 2 ^ 24 % 256 + sr.toNat / 2 ^ 16 % 256 +
      sr.toNat / 2 ^ 8 % 256) % 256 := by
  simp [checksum, humidityHigh, humidityLow, tempHigh, tempLow, Nat.shiftRight_eq_div_pow]

theorem checksumOk_iff (sr : FrameWord) : checksumOk sr = true ↔ checksum sr = sr.toNat % 256 := by
  rw [checksumOk, decide_eq_true_iff]
  simp [checksumField]

/-- Settles O41: the bytes of the sum, and an unverified DECODE. -/
theorem checksumSumsTheDataBytes : Obligations.ChecksumSumsTheDataBytes :=
  ⟨fun sr => ⟨checksum_eq sr, checksumOk_iff sr⟩,
    fun s hv => ⟨_, exec_decode_of_accepted s (.inl hv), rfl, rfl, rfl⟩⟩

/-! ### The sensor's encoding (R76, R180) -/

section encoding

variable (h t : Int) (c : BitVec 8)

theorem humidityField_frameOf : humidityField (frameOf h t c) = encodeHumidity h := by
  rw [humidityField, frameOf, BitVec.extractLsb'_append_eq_of_le (by decide)]
  exact BitVec.extractLsb'_append_eq_left

theorem temperatureField_frameOf : temperatureField (frameOf h t c) = encodeTemperature t := by
  rw [temperatureField, frameOf, BitVec.extractLsb'_append_eq_of_le (by decide)]
  exact BitVec.extractLsb'_append_eq_right

theorem checksumField_frameOf : checksumField (frameOf h t c) = c := BitVec.extractLsb'_append_eq_right

end encoding

/-- The pattern of a small nonnegative value. -/
theorem u16_toNat {x : Int} (h : 0 ≤ x) (h' : x < 65536) : ((u16 x).toNat : Int) = x := by
  simp [u16]
  omega

/-- The encoded temperature decodes back: the sign bit stands above the magnitude's 15. -/
theorem signMagnitude_encodeTemperature {t : Int} (hlo : -32767 ≤ t) (hhi : t ≤ 32767) :
    signMagnitude (encodeTemperature t) = t := by
  rw [signMagnitude_eq, encodeTemperature]
  split
  case isTrue hneg =>
    have hmag := u16_toNat (x := -t) (by omega) (by omega)
    have hor : (0x8000#16 ||| u16 (-t)).toNat = 32768 + (u16 (-t)).toNat :=
      (Nat.two_pow_add_eq_or_of_lt (i := 15) (by omega) 1).symm
    rw [hor]
    split <;> omega
  case isFalse hpos =>
    have hmag := u16_toNat (x := t) (by omega) (by omega)
    split <;> omega

/-- Shifting a frame's wire bits in gives the frame (R76, R172). -/
theorem shiftedFrame_wireBits (f : FrameWord) : shiftedFrame (wireBits f) = f := by
  refine BitVec.eq_of_getLsbD_eq fun i hi => ?_
  have hlen : (wireBits f).length = 40 := by simp [wireBits]
  rw [shiftedFrame_eq_accumulate, getLsbD_accumulate, List.getD_reverse i (by omega), hlen]
  have hwire : 40 - 1 - i < 40 := by omega
  have hback : 39 - (39 - i) = i := by omega
  simp [wireBits, hi, hwire, hback]

/-- Settles O42: the fields of an encoded pair are the encodings, and each decodes back. -/
theorem encodedPairDecodesBack : Obligations.EncodedPairDecodesBack := by
  intro h t c hlo hhi tlo thi
  refine ⟨?_, ?_, checksumField_frameOf h t c, shiftedFrame_wireBits _⟩
  · rw [humidityField_frameOf, encodeHumidity, s16_u16 hlo hhi]
  · rw [temperatureField_frameOf, signMagnitude_encodeTemperature tlo thi, s16_u16 (by omega) thi]

/-! ### What a read publishes (R179) -/

/-- A poll publishes nothing. -/
theorem done_notMem_newEvents_poll {level : Bool} {bound : Option Nat} {exit again : FsmWord} {s : State}
    {r x : ResultWord} {c : CauseWord} : .done r x c ∉ newEvents s (poll level bound exit again s) := by
  obtain ⟨_, hp⟩ | ⟨_, _, hp⟩ | ⟨_, _, _, _, hp⟩ | ⟨_, _, _, _, hp⟩ := poll_cases level bound exit again s <;>
    simp [hp, newEvents]

/-- FINALIZE alone publishes, and what it publishes are the three results. -/
theorem Executes.finalize_of_done {i : Instr} {s t : State} (he : Executes i s t) {r x : ResultWord} {c : CauseWord}
    (hd : .done r x c ∈ newEvents s t) : i = .finalize ∧ r = s.rh ∧ x = s.temp ∧ c = s.cause := by
  cases he
  case finalize => simpa [newEvents, finishRead_eq] using hd
  case awaitAckEnd | bitWaitRise | bitWaitFall => exact absurd hd done_notMem_newEvents_poll
  all_goals simp [newEvents, driveHighRelease_eq] at hd

/-- Settles O53: FINALIZE publishes settled results; a refusal and a GET append no event. -/
theorem doneIsADecodedFrameOrTheSentinel : Obligations.DoneIsADecodedFrameOrTheSentinel := by
  intro s t r x c h hs hd
  obtain ⟨rest, _, ⟨i, hm, he⟩ | ⟨q, rfl⟩ | rfl⟩ := step_cases_of_primitiveFree h.primitiveFree hs
  · obtain ⟨rfl, rfl, rfl, rfl⟩ := he.finalize_of_done hd
    have hf : s.fsm = Fsm.finalize := by simpa [SpecMove, Instr.format, encode] using hm
    have hset := h.settled (.inl hf)
    by_cases hc : s.cause = Cause.ok
    · obtain ⟨hcnt, hrh, htemp, _⟩ := hset.decoded hc
      exact .inl ⟨hc, BitVec.eq_of_toNat_eq hcnt, hrh, htemp ▸ s16_temperatureWord _⟩
    · exact .inr ⟨hc, hset.sentinel hc⟩
  · simp [newEvents] at hd
  · simp [newEvents] at hd

/-! ### The read of a sent frame (R170, R180) -/

/-- Settles O55: the run of a successful read. -/
theorem everyAnsweredFrameIsRead : Obligations.EveryAnsweredFrameIsRead :=
  fun _ _ _ _ _ h hlen hframe he hr hb hv hl => (h.readRun hlen hframe he hr hb hv hl).runs

/-- Settles O56: the wire bits of the pair's frame are read to the end, and the frame's fields decode back. -/
theorem sentPairIsReadBack : Obligations.SentPairIsReadBack := by
  intro s k bits rest h t c hw hlo hhi tlo thi hbits he hr hb hv hl
  have hlen : bits.length = 40 := by simpa [wireBits] using congrArg List.length hbits
  have hframe : frameOf h t c = shiftedFrame (bits.map BitAnswers.bit) := by rw [hbits, shiftedFrame_wireBits]
  have hok : s.cfg.verifyChecksum = false ∨ checksumOk (frameOf h t c) = true :=
    hv.imp_right fun hc => by simp [checksumOk, checksumField_frameOf, hc]
  have ⟨_, _, _, _, _, _, hcause, _⟩ := hw
  obtain ⟨hrh, htemp, _⟩ := encodedPairDecodesBack h t c hlo hhi tlo thi
  exact ⟨_, (hw.readRun hlen hframe he hr hb hok hl).runs, rfl, hcause, congrArg₂ Reading.mk hrh htemp⟩

end Sys2Proof.Machine
end

section
/-! PROOFS. The host commands (spec/44_host_commands.md): who moves next (R201), what each command answers (R202 to
R206, R209), GET (R207), and that no host move disturbs a read (R206, R210). -/

namespace Sys2Proof.Machine

/-! ### Who moves next (R201) -/

section turns

variable {s : State} {rest : List Turn}

/-- Taking a turn as one update. -/
theorem endTurn_eq (rest : List Turn) (s : State) : endTurn rest s = { s with agenda := rest } := rfl

theorem fetch_of_nil (h : s.agenda = []) : fetch s = (.word (.ustate s.fsm), s) := by simp only [fetch, h]

theorem fetch_of_block (h : s.agenda = .block :: rest) : fetch s = (.word (.ustate s.fsm), endTurn rest s) := by
  simp only [fetch, h]

theorem fetch_of_command {w : BitVec 2} (h : s.agenda = .command w :: rest) :
    fetch s = (.word (.cmd w), endTurn rest s) := by
  simp only [fetch, h]

theorem fetch_of_get (h : s.agenda = .get :: rest) : fetch s = (.get, endTurn rest s) := by simp only [fetch, h]

/-- A waiting host stays while a read goes on, and the block moves (R82). -/
theorem fetch_of_waitDone_busy (h : s.agenda = .waitDone :: rest) (hb : busy s = true) :
    fetch s = (.word (.ustate s.fsm), s) := by
  simp only [fetch, h, hb, if_true]

/-- A waiting host leaves with one NOP when no read goes on (R82). -/
theorem fetch_of_waitDone_idle (h : s.agenda = .waitDone :: rest) (hb : busy s = false) :
    fetch s = (.word (.cmd 0b00#2), endTurn rest s) := by
  simp [fetch, h, hb]

/-- A command turn runs its word on the state with that turn taken. -/
theorem step_of_command {w : BitVec 2} (hs : standingStop s = none) (h : s.agenda = .command w :: rest) :
    step s = runMove (.word (.cmd w)) (endTurn rest s) := by
  rw [step_eq_runMove hs, fetch_of_command h]

/-- A GET turn runs GET on the state with that turn taken. -/
theorem step_of_get (hs : standingStop s = none) (h : s.agenda = .get :: rest) :
    step s = hostGet (endTurn rest s) := by
  rw [step_eq_runMove hs, fetch_of_get h, runMove]

/-- With no turn listed, a turn the host decides on is the next one, and taking it restores the state (R201). -/
theorem endTurn_nil_schedule (h : s.agenda = []) (turns : List Turn) : endTurn [] (schedule turns s) = s := by
  simp [endTurn, schedule, ← h]

theorem schedule_agenda_of_nil (h : s.agenda = []) (turns : List Turn) : (schedule turns s).agenda = turns := by
  rw [schedule_agenda, h, List.nil_append]

end turns

/-- Settles O7, by the turn in front: each shape of the list fetches one agent's move. -/
theorem oneAgentMovesAtEachStep : Obligations.OneAgentMovesAtEachStep := by
  intro s rest hs
  refine ⟨fetch_of_nil, fun h hidle => ?_, fetch_of_block, fun _ => fetch_of_command, fetch_of_get,
    fun h hbusy => fetch_of_waitDone_busy h ((busy_eq_true_iff s).mpr hbusy), fun h hidle => ?_, fun w h => ?_,
    fun h => ?_⟩
  · have hd : decode (.ustate s.fsm) = some .idle := by rw [hidle]; rfl
    rw [step_eq_runMove hs, fetch_of_nil h, runMove_word_of_decode hd, exec_idle]
  · rw [step_eq_runMove hs, fetch_of_waitDone_idle h ((busy_eq_false_iff s).mpr hidle),
      runMove_word_of_decode (i := .nop) rfl, exec_nop, endTurn_eq]
  · rw [fetch_of_command (schedule_agenda_of_nil h _), endTurn_nil_schedule h]
  · rw [fetch_of_get (schedule_agenda_of_nil h _), endTurn_nil_schedule h]

/-! ### The commands (R202 to R206, R209) -/

/-- A refusal as one update (R14). -/
theorem refuse_eq (r : RefusalReason) (s : State) :
    refuse r s = { s with refusalMark := addReason r s.refusalMark } := rfl

/-- An accepted INIT as one update (R203). -/
theorem exec_init_eq_of_idle {s : State} (h : s.fsm = Fsm.idle) :
    exec .init s = .next { s with bound := true, mode := .idle, hist := s.hist ++ [.cmd .init, .mode .idle] } := by
  rw [exec_init_of_idle s ((busy_eq_false_iff s).mpr h), setMode_eq]
  simp [bindLine, emit]

/-- An accepted READ as one update (R204). -/
theorem exec_read_eq_of_ready {s : State} (h : s.fsm = Fsm.idle) (hb : s.bound = true) :
    exec .read s = .next { s with
      fsm := Fsm.wakeLow
      sr := 0#40
      cnt := 0#6
      cause := 0b000#3
      causeWritten := true
      mode := .drivingLow
      hist := s.hist ++ [.cmd .read, .mode .drivingLow] } := by
  rw [exec_read_of_ready s ((busy_eq_false_iff s).mpr h) hb, goto_eq, setMode_eq]
  simp [writeCause, clearFrame, emit]

/-- The reserved command word is refused (R205). -/
theorem runMove_reservedCommand (s : State) : runMove (.word (.cmd 0b11#2)) s = .next (refuse .reservedCommand s) := rfl

/-- Settles O10: NOP answers the state it is given. -/
theorem nopChangesNothing : Obligations.NopChangesNothing := ⟨rfl, exec_nop⟩

/-- Settles O11, by whether a read goes on. -/
theorem initBindsAndRestsTheLine : Obligations.InitBindsAndRestsTheLine :=
  ⟨rfl, fun s => ⟨fun h => by rw [exec_init_of_busy s ((busy_eq_true_iff s).mpr h), refuse_eq],
    exec_init_eq_of_idle⟩⟩

/-- Settles O12, by whether a read goes on and whether the block is bound. -/
theorem readStartsTheWake : Obligations.ReadStartsTheWake :=
  ⟨rfl, fun s => ⟨fun h => by rw [exec_read_of_busy s ((busy_eq_true_iff s).mpr h), refuse_eq],
    fun h hb => by rw [exec_read_of_unbound s ((busy_eq_false_iff s).mpr h) hb, refuse_eq], exec_read_eq_of_ready⟩⟩

/-- Settles O13: the word spells no operation, so it is refused once its turn is taken. -/
theorem reservedCommandIsRefused : Obligations.ReservedCommandIsRefused := fun s rest hs h => by
  rw [step_of_command hs h, runMove_reservedCommand, refuse_eq, endTurn_eq]

/-- Settles O15: INIT leaves `fsm` in IDLE, so the second INIT is accepted too, and it writes what is already there. -/
theorem initIsIdempotent : Obligations.InitIsIdempotent := fun s hb =>
  have hidle : s.fsm = Fsm.idle := (busy_eq_false_iff s).mp hb
  ⟨_, _, exec_init_eq_of_idle hidle, exec_init_eq_of_idle hidle, rfl, rfl⟩

/-! ### GET (R207) -/

/-- Latching the ports as one update (log entry 11). -/
theorem latchPorts_eq (s : State) : latchPorts s = { s with hostGot := some ⟨s.rh, s.temp, s.cause⟩ } := rfl

theorem resultsWritten_iff (s : State) :
    resultsWritten s = true ↔ s.rhWritten = true ∧ s.tempWritten = true ∧ s.causeWritten = true := by
  simp only [resultsWritten, Bool.and_eq_true, and_assoc]

section get

variable {s : State}

theorem hostGet_of_busy (h : s.fsm ≠ Fsm.idle) : hostGet s = .next (refuse .readWhileBusy s) := by
  rw [hostGet, if_pos ((busy_eq_true_iff s).mpr h)]

theorem hostGet_of_unwritten (h : s.fsm = Fsm.idle) (hr : ¬resultsWritten s = true) :
    hostGet s = .fault .readUnwritten := by
  rw [hostGet, if_neg (by simp [h]), if_neg hr]

theorem hostGet_of_written (h : s.fsm = Fsm.idle) (hr : resultsWritten s = true) :
    hostGet s = .next (latchPorts s) := by
  rw [hostGet, if_neg (by simp [h]), if_pos hr]

end get

/-- Settles O14, by whether a read goes on and whether the results are written: taking the turn changes neither. -/
theorem getReturnsThePorts : Obligations.GetReturnsThePorts := by
  intro s rest hs h
  rw [step_of_get hs h, ← resultsWritten_iff]
  refine ⟨fun hbusy => ?_, fun hidle hr => hostGet_of_unwritten hidle hr, fun hidle hr => ?_, rfl⟩
  · rw [hostGet_of_busy (s := endTurn rest s) hbusy, refuse_eq, endTurn_eq]
  · rw [hostGet_of_written (s := endTurn rest s) hidle hr, latchPorts_eq, endTurn_eq]

/-! ### Host moves during a read (R206, R210) -/

/-- The refusal mark after a command word presented during a read: NOP leaves it, the reserved word and the two other
commands each add their reason. -/
def busyCommandMark (w : BitVec 2) (mark : List RefusalReason) : List RefusalReason :=
  match decodeCommand w with
  | some .nop => mark
  | some _ => addReason .commandWhileBusy mark
  | none => addReason .reservedCommand mark

/-- During a read a command word changes the refusal mark alone. -/
theorem runMove_command_of_busy {s : State} (h : s.fsm ≠ Fsm.idle) (w : BitVec 2) :
    runMove (.word (.cmd w)) s = .next { s with refusalMark := busyCommandMark w s.refusalMark } := by
  have hb : busy s = true := (busy_eq_true_iff s).mpr h
  cases hd : decodeCommand w with
  | none => simp only [runMove, decode, reservedWord, busyCommandMark, hd, refuse_eq]
  | some i =>
    rw [runMove_word_of_decode (w := .cmd w) hd]
    obtain ⟨rfl, rfl⟩ | ⟨rfl, rfl⟩ | ⟨rfl, rfl⟩ := decodeCommand_cases w i hd
    · rw [exec_nop]; rfl
    · rw [exec_init_of_busy s hb, refuse_eq]; rfl
    · rw [exec_read_of_busy s hb, refuse_eq]; rfl

/-- Settles O16, by the host's move: GET and each command word change the refusal mark alone. -/
theorem noHostMoveDisturbsARead : Obligations.NoHostMoveDisturbsARead := by
  rintro s turn rest hs hbusy h (rfl | ⟨w, rfl⟩)
  · refine ⟨addReason .readWhileBusy s.refusalMark, ?_, by simp⟩
    rw [step_of_get hs h, hostGet_of_busy (s := endTurn rest s) hbusy, refuse_eq, endTurn_eq]
  · refine ⟨busyCommandMark w s.refusalMark, ?_, ?_, ?_, ?_, nofun⟩
    · rw [step_of_command hs h, runMove_command_of_busy (s := endTurn rest s) hbusy, endTurn_eq]
    · rintro ⟨⟩; rfl
    · rintro (⟨⟨⟩⟩ | ⟨⟨⟩⟩) <;> rfl
    · rintro ⟨⟩; rfl

end Sys2Proof.Machine
end

section
/-! PROOFS. Failures and marks (spec/60_exceptions.md): the marks are never cleared (R225), the exit level wins over the
timeout (R227), a stuck line hangs an unbounded wait and times out a bounded one (R223, R228), and the one way into and
out of a read (R229). -/

namespace Sys2Proof.Machine

/-! ### The marks (R225, R11) -/

/-- Refusing keeps every reason there was. -/
theorem mem_refusalMark_refuse {q : RefusalReason} {s : State} (r : RefusalReason) (h : q ∈ s.refusalMark) :
    q ∈ (refuse r s).refusalMark :=
  mem_addReason.mpr (.inr h)

/-- An operation clears no refusal reason: it refuses, or leaves the mark as it was. -/
theorem Executes.mem_refusalMark {i : Instr} {s t : State} (he : Executes i s t) {q : RefusalReason}
    (h : q ∈ s.refusalMark) : q ∈ t.refusalMark := by
  cases he
  case initBusy | readBusy | readUnbound => exact mem_refusalMark_refuse _ h
  case awaitAckEnd | bitWaitRise | bitWaitFall => simpa using h
  all_goals exact h

/-- A step clears no refusal reason. -/
theorem mem_refusalMark_of_step {s t : State} (hs : step s = .next t) {q : RefusalReason} (h : q ∈ s.refusalMark) :
    q ∈ t.refusalMark := by
  obtain ⟨rest, ⟨i, he⟩ | ⟨r, rfl⟩ | rfl⟩ := step_outcomes hs
  · exact he.mem_refusalMark h
  · exact mem_refusalMark_refuse r h
  · exact h

section markedStep

variable {s : State}

theorem markedStep_of_next {t : State} (h : step s = .next t) : markedStep s = t := by simp only [markedStep, h]

theorem markedStep_of_fault {r : Fault} (h : step s = .fault r) : markedStep s = { s with faultMark := some r } := by
  simp only [markedStep, h]

theorem markedStep_of_refused {r : Refusal} (h : step s = .refused r) :
    markedStep s = refuse .illegalConfiguration s := by
  simp only [markedStep, h]

/-- A fault mark stands before any move (R225). -/
theorem step_of_faultMark {r : Fault} (h : s.faultMark = some r) : step s = .fault r :=
  step_of_standingStop (by simp only [standingStop, h])

/-- With a fault mark the marked step sets the mark that is there. -/
theorem markedStep_of_faultMark {r : Fault} (h : s.faultMark = some r) : markedStep s = s := by
  rw [markedStep_of_fault (step_of_faultMark h), ← h]

/-- The marked step clears no refusal reason, whatever the step's outcome. -/
theorem mem_refusalMark_markedStep {q : RefusalReason} (h : q ∈ s.refusalMark) : q ∈ (markedStep s).refusalMark := by
  cases hs : step s with
  | next t => exact markedStep_of_next hs ▸ mem_refusalMark_of_step hs h
  | fault r => exact markedStep_of_fault hs ▸ h
  | refused r => exact markedStep_of_refused hs ▸ mem_refusalMark_refuse _ h

end markedStep

/-- Settles O46, by the step's outcome: a next state keeps the reasons, a fault sets the fault mark, and a refused step
adds its reason. -/
theorem marksAreNeverCleared : Obligations.MarksAreNeverCleared := fun _ =>
  ⟨fun _ h => ⟨step_of_faultMark h, markedStep_of_faultMark h⟩, fun _ => mem_refusalMark_markedStep,
    fun _ => markedStep_of_fault, fun _ h => markedStep_of_refused h ▸ mem_addReason.mpr (.inl rfl)⟩

/-! ### The exit level wins (R227) -/

theorem isWait_iff (f : FsmWord) :
    isWait f = true ↔ f = Fsm.awaitAckEnd ∨ f = Fsm.bitWaitRise ∨ f = Fsm.bitWaitFall := by
  simp [isWait, or_assoc]

/-- A wait's exit is neither FAILED nor the wait itself. -/
theorem waitExit_leaves {f : FsmWord} (hw : isWait f = true) (c : CountWord) :
    waitExit f c ≠ Fsm.failed ∧ waitExit f c ≠ f := by
  obtain rfl | rfl | rfl := (isWait_iff f).mp hw
  · exact (by decide : Fsm.ready ≠ Fsm.failed ∧ Fsm.ready ≠ Fsm.awaitAckEnd)
  · exact (by decide : Fsm.bitSample ≠ Fsm.failed ∧ Fsm.bitSample ≠ Fsm.bitWaitRise)
  · show afterBit c ≠ Fsm.failed ∧ afterBit c ≠ Fsm.bitWaitFall
    rw [afterBit_eq]
    split <;> decide

/-- A wait's operation is one poll in every state, also where another state stands in `fsm`. -/
theorem pollsOnce_of_isWait {f : FsmWord} {i : Instr} (hw : isWait f = true) (hd : decodeState f = some i) (s : State) :
    PollsOnce i (!stayLevel f) (waitBound s.cfg f) (waitExit f s.cnt) f s := by
  obtain rfl | rfl | rfl := (isWait_iff f).mp hw <;> cases hd
  · exact pollsOnce_of_exec (exec_awaitAckEnd s)
  · exact pollsOnce_of_exec (exec_bitWaitRise s)
  · exact pollsOnce_of_exec (exec_bitWaitFall s)

/-- Settles O33: on the exit level the poll leaves, and its sample is the one event. -/
theorem exitLevelWinsOverTimeout : Obligations.ExitLevelWinsOverTimeout := by
  intro s t f i hw hd hv he
  obtain ⟨hexit, _⟩ := pollsOnce_of_isWait hw hd s
  cases (hexit hv).symm.trans he
  obtain ⟨hfailed, hwait⟩ := waitExit_leaves hw s.cnt
  exact ⟨hfailed, hwait, rfl, rfl, by simp [newEvents]⟩

/-! ### A stuck line (R223, R228) -/

/-- Where nothing stands and no turn is listed, the block is left alone. -/
theorem Unattended.of_standingStop {s : State} (hs : standingStop s = none) (ha : s.agenda = []) : Unattended s := by
  obtain ⟨hfault, hlegal, _, hcause⟩ := (standingStop_eq_none_iff s).mp hs
  exact ⟨ha, hfault, hlegal, hcause⟩

/-- Settles O58: the block left alone stays in the wait for as long as the line does. -/
theorem stuckLinePollsOn : Obligations.StuckLinePollsOn := by
  intro s k rest hs ha hw hb hl
  have run := (BlockRun.refl (.of_standingStop hs ha)).stays hw hb hl
  rw [Nat.zero_add] at run
  exact run.runs

namespace BlockRun

section extend

variable {k b : Nat} {s t : State} (h : BlockRun k s t)
include h

/-- A bounded wait polls on while the line stays and the clock answers false (R101, R227). -/
theorem staysBounded {n : Nat} {rest crest : List Bool} (hw : isWait t.fsm = true)
    (hb : waitBound t.cfg t.fsm = some b) (hl : t.lineIn = List.replicate n (stayLevel t.fsm) ++ rest)
    (hc : t.clockIn = List.replicate n false ++ crest) :
    BlockRun (k + n) s { t with
      lineIn := rest
      clockIn := crest
      draws := t.draws + 2 * n
      hist := t.hist ++ (List.replicate n [.sample (stayLevel t.fsm), .elapsed false]).flatten } := by
  induction n generalizing k t with
  | zero => simpa [← (show t.lineIn = rest from hl), ← (show t.clockIn = crest from hc)] using h
  | succ n ih =>
    obtain ⟨i, hd, _, _, hask⟩ := wait_pollsOnce hw
    rw [List.replicate_succ, List.cons_append] at hl hc
    have polled := h.move hd ((hask b false (by simp [lineLevel_of_listed hl]) hb (clockAnswer_of_listed hc)).2 rfl)
    have run := ih polled hw hb (by simp [hl]) (by simp [hc])
    simpa [List.replicate_succ, Nat.add_assoc, Nat.add_comm 1 n, Nat.mul_add, Nat.add_comm 2] using run

/-- A stay level on which the clock answers true fails the read (R220, R228). -/
theorem timesOut {rest crest : List Bool} (hw : isWait t.fsm = true) (hb : waitBound t.cfg t.fsm = some b)
    (hl : t.lineIn = stayLevel t.fsm :: rest) (hc : t.clockIn = true :: crest) :
    BlockRun (k + 1) s { t with
      fsm := Fsm.failed
      cause := 0b011#3
      causeWritten := true
      lineIn := rest
      clockIn := crest
      draws := t.draws + 2
      hist := t.hist ++ [.sample (stayLevel t.fsm), .elapsed true] } := by
  obtain ⟨i, hd, _, _, hask⟩ := wait_pollsOnce hw
  have run := h.move hd ((hask b true (by simp [lineLevel_of_listed hl]) hb (clockAnswer_of_listed hc)).1 rfl)
  simpa [hl, hc] using run

end extend

end BlockRun

/-- Settles O59: the polls with a false answer, the one with the true answer, and the end of a failed read. -/
theorem timedOutWaitEndsTheRead : Obligations.TimedOutWaitEndsTheRead := by
  intro s k b rest crest hs ha hw hb hl hc
  rw [List.replicate_succ', List.append_assoc] at hl
  have stayed := (BlockRun.refl (.of_standingStop hs ha)).staysBounded hw hb hl hc
  have run := ((stayed.timesOut hw hb rfl rfl).failedRead rfl).runs
  simpa [Nat.mul_add, Nat.add_assoc] using run

/-! ### The one way into and out of a read (R229) -/

/-- A fetched word that decodes is an agent's of the spec when no bare primitive is listed. -/
theorem specMove_of_fetch {s : State} {w : CodeWord} {i : Instr} (hp : PrimitiveFree s)
    (hw : (fetch s).1 = .word w) (hd : decode w = some i) : SpecMove i s := by
  obtain hm | ⟨c, hm⟩ | hm | ⟨p, n, hm, hin⟩ := fetch_move s <;> cases hw.symm.trans hm
  · exact .inr (encode_of_decode hd).symm
  · obtain ⟨_, rfl⟩ | ⟨_, rfl⟩ | ⟨_, rfl⟩ := decodeCommand_cases _ _ hd <;> exact .inl rfl
  · exact absurd hin (hp p n)

/-- A step that moves `fsm` runs a fetched word: a refusal and a GET leave `fsm`. -/
theorem fetched_of_fsm_ne {s t : State} (hp : PrimitiveFree s) (hs : step s = .next t) (hne : t.fsm ≠ s.fsm) :
    ∃ rest w i, (fetch s).1 = .word w ∧ decode w = some i ∧ SpecMove i (endTurn rest s) ∧
      Executes i (endTurn rest s) t := by
  obtain ⟨rest, _, hu⟩ := fetch_eq s
  have hcases := step_cases hs
  rw [hu] at hcases
  obtain ⟨_, ⟨w, i, hw, hd, he⟩ | ⟨_, _, _, rfl⟩ | ⟨_, _, rfl⟩ | ⟨_, _, _, rfl⟩⟩ := hcases
  · have hm : SpecMove i s := specMove_of_fetch hp hw hd
    exact ⟨rest, w, i, hw, hd, hm, executes_of_exec he⟩
  all_goals exact absurd rfl hne

/-- READ alone leaves IDLE, and only when it is accepted (R204). -/
theorem Executes.read_of_rise {i : Instr} {s t : State} (he : Executes i s t) (hm : SpecMove i s)
    (hs : s.fsm = Fsm.idle) (ht : t.fsm ≠ Fsm.idle) :
    i = .read ∧ s.bound = true ∧ t.fsm = Fsm.wakeLow ∧ newEvents s t = [.cmd .read, .mode .drivingLow] := by
  cases he <;> simp [SpecMove, Instr.format, encode, hs] at hm
  case read _ hb => exact ⟨rfl, hb, rfl, by simp [newEvents]⟩
  all_goals exact absurd hs ht

/-- The one edge into IDLE is FINALIZE's (R21). -/
theorem FollowsGraph.finalize_of_idle {c : Config} {f : FsmWord} (h : FollowsGraph c f Fsm.idle) (hf : f ≠ Fsm.idle) :
    f = Fsm.finalize := by
  have hedge : ∀ f, (f, Fsm.idle) ∈ stateGraph → f = Fsm.finalize := by decide
  obtain ⟨hg, _⟩ := h
  exact hedge f (hg.resolve_left hf.symm)

/-- FINALIZE's rule alone enters IDLE (R178). -/
theorem Executes.finalize_of_fall {i : Instr} {s t : State} (he : Executes i s t) (hm : SpecMove i s)
    (hs : s.fsm ≠ Fsm.idle) (ht : t.fsm = Fsm.idle) : s.fsm = Fsm.finalize ∧ t = finishRead s := by
  have hf : s.fsm = Fsm.finalize := (ht ▸ he.followsGraph hm).finalize_of_idle hs
  refine ⟨hf, ?_⟩
  cases he <;> simp [SpecMove, Instr.format, encode, hf] at hm
  case finalize => rfl
  case read hidle _ => exact absurd hidle hs
  all_goals exact absurd ht hs

/-- Settles O52: a step that moves `fsm` runs a fetched word, which is READ when `busy` rises and FINALIZE's rule when it
falls. -/
theorem readsBeginAndEndInOnePlace : Obligations.ReadsBeginAndEndInOnePlace := by
  intro s t h hs
  simp only [busy_eq_false_iff, busy_eq_true_iff]
  refine ⟨fun hidle hbusy => ?_, fun hbusy hidle => ?_⟩
  · obtain ⟨rest, w, i, hw, hd, hm, he⟩ := fetched_of_fsm_ne h.primitiveFree hs (hidle ▸ hbusy)
    obtain ⟨rfl, hbound, hwake, hev⟩ := he.read_of_rise hm hidle hbusy
    cases encode_of_decode hd
    exact ⟨hw, hbound, hwake, hev⟩
  · obtain ⟨rest, w, i, _, _, hm, he⟩ := fetched_of_fsm_ne h.primitiveFree hs (hidle ▸ hbusy.symm)
    obtain ⟨hf, rfl⟩ := he.finalize_of_fall hm hbusy hidle
    exact ⟨hf, rfl, by simp [newEvents, finishRead_eq]⟩

end Sys2Proof.Machine
end

section
/-! PROOFS. Every read ends when its waits are bounded (spec/70_reset_and_hazards.md R262). Each step of a
read brings it nearer to IDLE or stalls, and the fairness of block and clock (R201, R101) lets no read stall for ever. -/

namespace Sys2Proof.Machine

/-! ### How far a read is from IDLE -/

/-- The order in which a read passes its states (R21), IDLE lowest. BIT_WAIT_FALL stands above BIT_WAIT_RISE, because a
1 waits for its falling edge before the next bit (R153). -/
def stage (f : FsmWord) : Nat :=
  if f = Fsm.idle then 0 else if f = Fsm.bitWaitFall then 7 else 13 - f.toNat

/-- How far a read is from its end. BIT_SAMPLE, at stage 5, goes to stage 7 at most, so a missing bit weighs 3. -/
def distance (s : State) : Nat := 3 * (40 - s.cnt.toNat) + stage s.fsm

/-- Leaving for a state nearer to IDLE at the same count. -/
theorem distance_lt_of_stage {s t : State} (hc : t.cnt = s.cnt) (hf : stage t.fsm < stage s.fsm) :
    distance t < distance s := by
  simp only [distance, hc]
  omega

/-- A bit more brings a read nearer, whichever state comes after the sample (R152). -/
theorem distance_lt_of_bit {s t : State} (hf : s.fsm = Fsm.bitSample) (hs : s.cnt.toNat < 40)
    (hc : t.cnt = s.cnt + 1#6) (ht : stage t.fsm ≤ 7) : distance t < distance s := by
  have hstage : stage Fsm.bitSample = 5 := rfl
  simp only [distance, hc, cnt_succ_toNat hs, hf, hstage]
  omega

theorem stage_failed_lt_of_isWait : ∀ f, isWait f = true → stage Fsm.failed < stage f := by decide

theorem stage_afterBit_lt (c : CountWord) : stage (afterBit c) < stage Fsm.bitWaitFall := by
  rw [afterBit_eq]
  split_ifs <;> decide

/-! ### What a step of a read does -/

/-- A poll that the clock lets go on. -/
structure PollsOn (s t : State) : Prop where
  wait : isWait s.fsm = true
  fsm : t.fsm = s.fsm
  cnt : t.cnt = s.cnt
  events : ∃ v, newEvents s t = [.sample v, .elapsed false]

/-- A step that brings a read no nearer to its end: a host move, or a poll that the clock lets go on. -/
structure Stalls (s t : State) : Prop where
  fsm : t.fsm = s.fsm
  cnt : t.cnt = s.cnt
  moves : ¬BlockMoves s ∧ newEvents s t = [] ∨ PollsOn s t

namespace Stalls

variable {s t : State} (h : Stalls s t)
include h

theorem distance_eq : distance t = distance s := by simp only [distance, h.fsm, h.cnt]

/-- When the block moves and the read stalls, a wait has asked the clock. -/
theorem asks_of_blockMoves (hm : BlockMoves s) : isWait s.fsm = true ∧ ∃ a, .elapsed a ∈ newEvents s t := by
  obtain ⟨hn, _⟩ | ⟨hw, _, _, _, hev⟩ := h.moves
  · exact absurd hm hn
  · exact ⟨hw, false, by simp [hev]⟩

/-- A true answer ends a wait (R228), so none is recorded in a stall. -/
theorem elapsed_true_notMem : .elapsed true ∉ newEvents s t := by
  obtain ⟨_, hev⟩ | ⟨_, _, _, _, hev⟩ := h.moves <;> simp [hev]

end Stalls

/-- A bounded poll leaves for its exit, fails, or has the clock let it go on. -/
theorem poll_nearer_or_pollsOn {s : State} {level : Bool} {bound : Option Nat} {exit again : FsmWord}
    (hf : s.fsm = again) (hw : isWait again = true) (hb : bound ≠ none) (hx : stage exit < stage again) :
    distance (poll level bound exit again s) < distance s ∨ PollsOn s (poll level bound exit again s) := by
  subst hf
  obtain ⟨_, hp⟩ | ⟨_, hn, _⟩ | ⟨b, _, _, _, hp⟩ | ⟨b, _, _, ha, hp⟩ := poll_cases level bound exit s.fsm s
  · rw [hp]
    exact .inl (distance_lt_of_stage (by simp) (by simpa using hx))
  · exact absurd hn hb
  · rw [hp]
    exact .inl (distance_lt_of_stage (by simp) (by simpa using stage_failed_lt_of_isWait _ hw))
  · rw [hp]
    exact .inr ⟨hw, goto_fsm .., by simp, lineLevel s, by simp [newEvents, ha]⟩

/-- The rule of a state of a read leaves that state for a nearer one, or is a poll that the clock lets go on. -/
theorem Executes.nearer_or_pollsOn {i : Instr} {s t : State} (he : Executes i s t) (hd : encode i = .ustate s.fsm)
    (hbusy : s.fsm ≠ Fsm.idle) (h : StateInvariant s) (hb : AllBounded s.cfg) :
    distance t < distance s ∨ PollsOn s t := by
  obtain ⟨hackEnd, hrise, hfall⟩ := hb
  cases he <;> simp [encode] at hd
  case idle => exact absurd hd.symm hbusy
  case awaitAckEnd => exact poll_nearer_or_pollsOn hd.symm (by decide) hackEnd (by decide)
  case bitWaitRise => exact poll_nearer_or_pollsOn hd.symm (by decide) hrise (by decide)
  case bitWaitFall => exact poll_nearer_or_pollsOn hd.symm (by decide) hfall (stage_afterBit_lt _)
  case bitOne => exact .inl (distance_lt_of_bit hd.symm (h.riseCount (.inr hd.symm)) (by simp) (by simp [stage]))
  case bitZero =>
    exact .inl (distance_lt_of_bit hd.symm (h.riseCount (.inr hd.symm)) (by simp) (stage_afterBit_lt _).le)
  all_goals
    exact .inl (distance_lt_of_stage (by simp [driveHighRelease_eq, finishRead_eq])
      (by simp [← hd, stage, finishRead_eq]))

/-- A step of a read with bounded waits brings it nearer to IDLE or stalls, by the agent that moves. -/
theorem step_nearer_or_stalls {s t : State} (h : StateInvariant s) (hb : AllBounded s.cfg) (hbusy : s.fsm ≠ Fsm.idle)
    (hs : step s = .next t) : distance t < distance s ∨ Stalls s t := by
  obtain ⟨rest, hrest, hturn⟩ := fetch_eq s
  rw [step_eq_runMove (standingStop_of_next hs), hturn] at hs
  obtain hm | ⟨w, hm⟩ | hm | ⟨w, n, _, hin⟩ := fetch_move s
  · obtain ⟨i, hd⟩ := decodeState_of_le h.legalCode
    rw [hm, runMove_word_of_decode (w := .ustate s.fsm) hd] at hs
    obtain hlt | ⟨hw, hf, hc, hev⟩ :=
      (executes_of_exec hs).nearer_or_pollsOn (encode_of_decodeState _ _ hd) hbusy (h.endTurn hrest) hb
    · exact .inl hlt
    · exact .inr ⟨hf, hc, .inr ⟨hw, hf, hc, hev⟩⟩
  · rw [hm, runMove_command_of_busy (s := endTurn rest s) hbusy] at hs
    cases hs
    exact .inr ⟨rfl, rfl, .inl ⟨by simp [BlockMoves, hm], by simp [newEvents]⟩⟩
  · rw [hm, runMove, hostGet_of_busy (s := endTurn rest s) hbusy] at hs
    cases hs
    exact .inr ⟨rfl, rfl, .inl ⟨by simp [BlockMoves, hm], by simp [newEvents]⟩⟩
  · exact absurd hin (h.primitiveFree w n)

/-! ### Endless runs -/

namespace Execution

variable {host : Nat → List Turn} {σ : Nat → State} (hx : Execution host σ)
include hx

/-- Every state of a run has the invariants when its first one does (R33). -/
theorem invariant (h : StateInvariant (σ 0)) (n : Nat) : StateInvariant (σ n) := by
  induction n with
  | zero => exact h
  | succ n ih => exact stepKeepsTheInvariants _ _ (ih.schedule (hx.hostMoves n)) (hx.steps n)

/-- No step of a run changes a parameter (R7). -/
theorem cfg_eq (n : Nat) : (σ n).cfg = (σ 0).cfg := by
  induction n with
  | zero => rfl
  | succ n ih => exact (step_keepsConfigAndTags (hx.steps n)).cfg.trans ih

end Execution

/-- A read does not stall for ever under a fair block and a fair clock. -/
theorem not_stalls_forever {host : Nat → List Turn} {σ : Nat → State} {n : Nat} (hblock : BlockFair host σ)
    (hclock : ClockFair σ) (hbusy : ∀ m, n ≤ m → (σ m).fsm ≠ Fsm.idle)
    (hstall : ∀ m, n ≤ m → Stalls (schedule (host m) (σ m)) (σ (m + 1))) : False := by
  have hstay : ∀ m, n ≤ m → (σ m).fsm = (σ n).fsm := fun m hm => by
    induction m, hm using Nat.le_induction with
    | base => rfl
    | succ m hm ih => exact (hstall m hm).fsm.trans ih
  have hasks : ∀ k, ∃ m, k ≤ m ∧ isWait (σ n).fsm = true ∧ ∃ a, .elapsed a ∈ newEvents (σ m) (σ (m + 1)) := fun k => by
    obtain ⟨m, hm, hmoves⟩ := hblock n (fun m hm => (busy_eq_true_iff _).mpr (hbusy m hm)) (max n k)
    have hnm : n ≤ m := by omega
    obtain ⟨hw, ha⟩ := (hstall m hnm).asks_of_blockMoves hmoves
    exact ⟨m, by omega, hstay m hnm ▸ hw, ha⟩
  obtain ⟨_, _, hwait, _⟩ := hasks n
  obtain ⟨m, hm, htrue⟩ := hclock n _ hwait hstay fun k => by
    obtain ⟨m, hk, _, ha⟩ := hasks k
    exact ⟨m, hk, ha⟩
  exact (hstall m hm).elapsed_true_notMem htrue

/-- When every step brings a read nearer to IDLE or stalls, each step from its nearest point on stalls. -/
theorem exists_stalls_forever {host : Nat → List Turn} {σ : Nat → State} {n : Nat}
    (hstep : ∀ k, n ≤ k → distance (σ (k + 1)) < distance (σ k) ∨ Stalls (schedule (host k) (σ k)) (σ (k + 1))) :
    ∃ m, n ≤ m ∧ ∀ k, m ≤ k → Stalls (schedule (host k) (σ k)) (σ (k + 1)) := by
  obtain ⟨m, hm⟩ := exists_minimalFor_of_wellFoundedLT (n ≤ ·) (fun k => distance (σ k)) ⟨n, le_rfl⟩
  have hnm : n ≤ m := hm.prop
  have hnearest : ∀ k, m ≤ k → ¬distance (σ k) < distance (σ m) := fun k hk => hm.not_lt (hnm.trans hk)
  have hstays : ∀ k, m ≤ k → distance (σ k) = distance (σ m) := fun k hk => by
    induction k, hk using Nat.le_induction with
    | base => rfl
    | succ k hk ih =>
      obtain hlt | hstall := hstep k (hnm.trans hk)
      · exact absurd (ih ▸ hlt) (hnearest _ (by omega))
      · exact hstall.distance_eq.trans ih
  refine ⟨m, hnm, fun k hk => (hstep k (hnm.trans hk)).resolve_left ?_⟩
  rw [hstays k hk]
  exact hnearest _ (by omega)

/-- Settles O60, by contradiction: a read that never ends would stall for ever from some point on. -/
theorem boundedReadsEnd : Obligations.BoundedReadsEnd := by
  intro host σ hx hinv hb hblock hclock n
  by_contra! hbusy
  obtain ⟨m, hnm, hstall⟩ := exists_stalls_forever fun k hk =>
    step_nearer_or_stalls ((hx.invariant hinv k).schedule (hx.hostMoves k)) ((hx.cfg_eq k).symm ▸ hb) (hbusy k hk)
      (hx.steps k)
  exact not_stalls_forever hblock hclock (fun k hk => hbusy k (hnm.trans hk)) hstall

end Sys2Proof.Machine
end
